-- ==== Sys2Proof/Word.lean ====
section
/-! DEFINITION. The word types of the core: register bytes, memory addresses, port operation words, and the
four-sample window the resampling kernels read. Signed samples are `Int`: the spec's values are integers
(00_scope.md R9), its arithmetic is exact, and `wrap16` and `clamp16` stand where the rules put them (R10, R11). -/

namespace Sys2Proof

/-- A register byte or a byte of memory. -/
abbrev Byte := BitVec 8

/-- A memory address: 65 536 bytes, every address taken modulo 2^16 (20_memory.md R70, R71). -/
abbrev Addr := BitVec 16

/-- A signed sample, before or after the widths of 00_scope.md R11 are applied. -/
abbrev Sample := Int

/-- A voice number 0 to 7, or a FIR tap number (30_encoding.md R90). -/
abbrev VoiceId := Fin 8

/-- `V[v].window[0..3]`: `w0` the oldest sample, `w3` the newest (10_state.md R27). -/
structure Window where
  w0 : Sample
  w1 : Sample
  w2 : Sample
  w3 : Sample
  deriving DecidableEq, Repr

/-- The bytes of `xs` as exactly `n` entries: cut at `n`, filled up with `d`. Where `xs` has `n` entries it is `xs`. -/
def fixLength {α : Type} (n : Nat) (d : α) (xs : List α) : Vector α n :=
  ⟨⟨(xs ++ List.replicate n d).take n⟩, by simp⟩

end Sys2Proof
end

