-- ==== Sys2Proof/Syntax.lean ====
section
/-! DEFINITION. The port operations: one constructor per row of spec/opcode_table.json (30_encoding.md R106, R107), and
the form in which the host hands one to the core: a 32-bit word with 128 bytes beside it, which only LOAD reads. -/

namespace Sys2Proof

/-- The host operations. `v` is the voice number (or tap number) of the register address, `d` the datum, `a` the whole
register address of an access above 0x7F. -/
inductive Instr
  /-- RD_VOLL (R265) -/
  | rdVoll (v : VoiceId)
  /-- RD_VOLR (R266) -/
  | rdVolr (v : VoiceId)
  /-- RD_PITCHL (R267) -/
  | rdPitchl (v : VoiceId)
  /-- RD_PITCHH (R268) -/
  | rdPitchh (v : VoiceId)
  /-- RD_SRCN (R269) -/
  | rdSrcn (v : VoiceId)
  /-- RD_ADSR1 (R270) -/
  | rdAdsr1 (v : VoiceId)
  /-- RD_ADSR2 (R271) -/
  | rdAdsr2 (v : VoiceId)
  /-- RD_GAIN (R272) -/
  | rdGain (v : VoiceId)
  /-- RD_ENVX (R273) -/
  | rdEnvx (v : VoiceId)
  /-- RD_OUTX (R274) -/
  | rdOutx (v : VoiceId)
  /-- RD_UNUSED_xA (R275) -/
  | rdUnusedXA (v : VoiceId)
  /-- RD_UNUSED_xB (R275) -/
  | rdUnusedXB (v : VoiceId)
  /-- RD_UNUSED_xE (R275) -/
  | rdUnusedXE (v : VoiceId)
  /-- RD_FIR (R276) -/
  | rdFir (v : VoiceId)
  /-- RD_MVOLL (R277) -/
  | rdMvoll
  /-- RD_MVOLR (R278) -/
  | rdMvolr
  /-- RD_EVOLL (R279) -/
  | rdEvoll
  /-- RD_EVOLR (R280) -/
  | rdEvolr
  /-- RD_KON (R281) -/
  | rdKon
  /-- RD_KOFF (R282) -/
  | rdKoff
  /-- RD_FLG (R283) -/
  | rdFlg
  /-- RD_ENDX (R284) -/
  | rdEndx
  /-- RD_EFB (R285) -/
  | rdEfb
  /-- RD_UNUSED_1D (R286) -/
  | rdUnused1D
  /-- RD_PMON (R287) -/
  | rdPmon
  /-- RD_NON (R288) -/
  | rdNon
  /-- RD_EON (R289) -/
  | rdEon
  /-- RD_DIR (R290) -/
  | rdDir
  /-- RD_ESA (R291) -/
  | rdEsa
  /-- RD_EDL (R292) -/
  | rdEdl
  /-- RD_HIGH (R262) -/
  | rdHigh (a : Byte)
  /-- WR_VOLL (R265) -/
  | wrVoll (v : VoiceId) (d : Byte)
  /-- WR_VOLR (R266) -/
  | wrVolr (v : VoiceId) (d : Byte)
  /-- WR_PITCHL (R267) -/
  | wrPitchl (v : VoiceId) (d : Byte)
  /-- WR_PITCHH (R268) -/
  | wrPitchh (v : VoiceId) (d : Byte)
  /-- WR_SRCN (R269) -/
  | wrSrcn (v : VoiceId) (d : Byte)
  /-- WR_ADSR1 (R270) -/
  | wrAdsr1 (v : VoiceId) (d : Byte)
  /-- WR_ADSR2 (R271) -/
  | wrAdsr2 (v : VoiceId) (d : Byte)
  /-- WR_GAIN (R272) -/
  | wrGain (v : VoiceId) (d : Byte)
  /-- WR_ENVX (R273) -/
  | wrEnvx (v : VoiceId) (d : Byte)
  /-- WR_OUTX (R274) -/
  | wrOutx (v : VoiceId) (d : Byte)
  /-- WR_UNUSED_xA (R275) -/
  | wrUnusedXA (v : VoiceId) (d : Byte)
  /-- WR_UNUSED_xB (R275) -/
  | wrUnusedXB (v : VoiceId) (d : Byte)
  /-- WR_UNUSED_xE (R275) -/
  | wrUnusedXE (v : VoiceId) (d : Byte)
  /-- WR_FIR (R276) -/
  | wrFir (v : VoiceId) (d : Byte)
  /-- WR_MVOLL (R277) -/
  | wrMvoll (d : Byte)
  /-- WR_MVOLR (R278) -/
  | wrMvolr (d : Byte)
  /-- WR_EVOLL (R279) -/
  | wrEvoll (d : Byte)
  /-- WR_EVOLR (R280) -/
  | wrEvolr (d : Byte)
  /-- WR_KON (R281) -/
  | wrKon (d : Byte)
  /-- WR_KOFF (R282) -/
  | wrKoff (d : Byte)
  /-- WR_FLG (R283) -/
  | wrFlg (d : Byte)
  /-- WR_ENDX (R284) -/
  | wrEndx (d : Byte)
  /-- WR_EFB (R285) -/
  | wrEfb (d : Byte)
  /-- WR_UNUSED_1D (R286) -/
  | wrUnused1D (d : Byte)
  /-- WR_PMON (R287) -/
  | wrPmon (d : Byte)
  /-- WR_NON (R288) -/
  | wrNon (d : Byte)
  /-- WR_EON (R289) -/
  | wrEon (d : Byte)
  /-- WR_DIR (R290) -/
  | wrDir (d : Byte)
  /-- WR_ESA (R291) -/
  | wrEsa (d : Byte)
  /-- WR_EDL (R292) -/
  | wrEdl (d : Byte)
  /-- WR_HIGH (R262) -/
  | wrHigh (a : Byte) (d : Byte)
  /-- CYC (46_host_port.md R350) -/
  | cyc (n : BitVec 28)
  /-- FLUSH (46_host_port.md R351) -/
  | flush
  /-- LOAD (46_host_port.md R352): one byte for each register address 0x00 to 0x7F -/
  | load (data : Vector Byte 128)
  /-- PULL (46_host_port.md R355) -/
  | pull (n : BitVec 28)
  /-- VCTL (46_host_port.md R356) -/
  | vctl (v : VoiceId) (solo mute : Bool)
  /-- RESET (70_reset_and_hazards.md R390) -/
  | reset
  /-- RESERVED: operation codes 0x8 to 0xF (30_encoding.md R110, 60_exceptions.md R372) -/
  | reserved
  deriving DecidableEq, Repr

/-- A port operation as the host hands it over: the port operation word (PCW), and the 128 data bytes that LOAD has
"carried beside the word" (30_encoding.md R106). Every other operation ignores them (log 13). -/
structure PortWord where
  word : BitVec 32
  beside : Vector Byte 128
  deriving DecidableEq, Repr

end Sys2Proof
end

