-- ==== Sys2Proof/WellFormed.lean ====
section
/-! DEFINITION. Well-formed instructions: those some port operation word decodes to. Every operand type but one already
admits exactly the encoding's values; the address of an access to 0x80..0xFF is a whole byte, so it needs a check. -/

namespace Sys2Proof

/-- An instruction is well formed when its operands fit its row. A high register address has bit 7 set (30_encoding.md
R107, R108); every other operand has the width of its field (60_exceptions.md R372: "every field of every operation
accepts all of its values"). -/
def Instr.wellFormed : Instr → Bool
  | .rdHigh a => a.msb
  | .wrHigh a _ => a.msb
  | .rdVoll _ | .rdVolr _ | .rdPitchl _ | .rdPitchh _ | .rdSrcn _ | .rdAdsr1 _ | .rdAdsr2 _ | .rdGain _
  | .rdEnvx _ | .rdOutx _ | .rdUnusedXA _ | .rdUnusedXB _ | .rdUnusedXE _ | .rdFir _ | .rdMvoll | .rdMvolr
  | .rdEvoll | .rdEvolr | .rdKon | .rdKoff | .rdFlg | .rdEndx | .rdEfb | .rdUnused1D | .rdPmon | .rdNon
  | .rdEon | .rdDir | .rdEsa | .rdEdl | .wrVoll _ _ | .wrVolr _ _ | .wrPitchl _ _ | .wrPitchh _ _ | .wrSrcn _ _
  | .wrAdsr1 _ _ | .wrAdsr2 _ _ | .wrGain _ _ | .wrEnvx _ _ | .wrOutx _ _ | .wrUnusedXA _ _ | .wrUnusedXB _ _
  | .wrUnusedXE _ _ | .wrFir _ _ | .wrMvoll _ | .wrMvolr _ | .wrEvoll _ | .wrEvolr _ | .wrKon _ | .wrKoff _
  | .wrFlg _ | .wrEndx _ | .wrEfb _ | .wrUnused1D _ | .wrPmon _ | .wrNon _ | .wrEon _ | .wrDir _ | .wrEsa _
  | .wrEdl _ | .cyc _ | .flush | .load _ | .pull _ | .vctl _ _ _ | .reset | .reserved => true

end Sys2Proof
end

