-- ==== Sys2Proof/Decode.lean ====
section
/-! DEFINITION. Decoding port operation words (30_encoding.md R90 to R92, R106, R107) and, after it, encoding them. -/

namespace Sys2Proof

/-- `A[6:4]`: the voice number, FIR tap number or global row of a register address (30_encoding.md R90). -/
def voiceField (a : Byte) : VoiceId := (a.extractLsb' 4 3).toFin

/-- `A[3:0]`: the register select of a register address (30_encoding.md R90). -/
def selectField (a : Byte) : BitVec 4 := a.extractLsb' 0 4

/-- Reads of the global column 0x_C (30_encoding.md R92). -/
def decodeReadC : VoiceId → Instr
  | 0 => .rdMvoll
  | 1 => .rdMvolr
  | 2 => .rdEvoll
  | 3 => .rdEvolr
  | 4 => .rdKon
  | 5 => .rdKoff
  | 6 => .rdFlg
  | 7 => .rdEndx

/-- Reads of the global column 0x_D (30_encoding.md R92). -/
def decodeReadD : VoiceId → Instr
  | 0 => .rdEfb
  | 1 => .rdUnused1D
  | 2 => .rdPmon
  | 3 => .rdNon
  | 4 => .rdEon
  | 5 => .rdDir
  | 6 => .rdEsa
  | 7 => .rdEdl

/-- Writes of the global column 0x_C (30_encoding.md R92). -/
def decodeWriteC (row : VoiceId) (d : Byte) : Instr :=
  match row with
  | 0 => .wrMvoll d
  | 1 => .wrMvolr d
  | 2 => .wrEvoll d
  | 3 => .wrEvolr d
  | 4 => .wrKon d
  | 5 => .wrKoff d
  | 6 => .wrFlg d
  | 7 => .wrEndx d

/-- Writes of the global column 0x_D (30_encoding.md R92). -/
def decodeWriteD (row : VoiceId) (d : Byte) : Instr :=
  match row with
  | 0 => .wrEfb d
  | 1 => .wrUnused1D d
  | 2 => .wrPmon d
  | 3 => .wrNon d
  | 4 => .wrEon d
  | 5 => .wrDir d
  | 6 => .wrEsa d
  | 7 => .wrEdl d

/-- A register read at address `a` (30_encoding.md R107). The last branch is select 0xF, the only value left. -/
def decodeRead (a : Byte) : Instr :=
  if a.msb then .rdHigh a else
  let v := voiceField a
  let s := selectField a
  if s = 0x0 then .rdVoll v
  else if s = 0x1 then .rdVolr v
  else if s = 0x2 then .rdPitchl v
  else if s = 0x3 then .rdPitchh v
  else if s = 0x4 then .rdSrcn v
  else if s = 0x5 then .rdAdsr1 v
  else if s = 0x6 then .rdAdsr2 v
  else if s = 0x7 then .rdGain v
  else if s = 0x8 then .rdEnvx v
  else if s = 0x9 then .rdOutx v
  else if s = 0xA then .rdUnusedXA v
  else if s = 0xB then .rdUnusedXB v
  else if s = 0xC then decodeReadC v
  else if s = 0xD then decodeReadD v
  else if s = 0xE then .rdUnusedXE v
  else .rdFir v

/-- A register write of `d` at address `a` (30_encoding.md R107). The last branch is select 0xF, the only value left. -/
def decodeWrite (a d : Byte) : Instr :=
  if a.msb then .wrHigh a d else
  let v := voiceField a
  let s := selectField a
  if s = 0x0 then .wrVoll v d
  else if s = 0x1 then .wrVolr v d
  else if s = 0x2 then .wrPitchl v d
  else if s = 0x3 then .wrPitchh v d
  else if s = 0x4 then .wrSrcn v d
  else if s = 0x5 then .wrAdsr1 v d
  else if s = 0x6 then .wrAdsr2 v d
  else if s = 0x7 then .wrGain v d
  else if s = 0x8 then .wrEnvx v d
  else if s = 0x9 then .wrOutx v d
  else if s = 0xA then .wrUnusedXA v d
  else if s = 0xB then .wrUnusedXB v d
  else if s = 0xC then decodeWriteC v d
  else if s = 0xD then decodeWriteD v d
  else if s = 0xE then .wrUnusedXE v d
  else .wrFir v d

/-- OP, bits 31:28 of a port operation word (30_encoding.md R106). -/
def opField (w : BitVec 32) : BitVec 4 := w.extractLsb' 28 4

/-- A, bits 15:8, of a register read or write (30_encoding.md R106). -/
def addressField (w : BitVec 32) : Byte := w.extractLsb' 8 8

/-- D, bits 7:0, of a register write (30_encoding.md R106). -/
def dataField (w : BitVec 32) : Byte := w.extractLsb' 0 8

/-- N, bits 27:0, of CYC and PULL (30_encoding.md R106). -/
def countField (w : BitVec 32) : BitVec 28 := w.extractLsb' 0 28

/-- v, bits 10:8, of VCTL (30_encoding.md R106). -/
def controlVoiceField (w : BitVec 32) : VoiceId := (w.extractLsb' 8 3).toFin

/-- Decoding a port operation: every word is some row's (30_encoding.md R107: "exactly one row matches every
non-reserved word"; R110 for 0x8 to 0xF). Bits that are no field are ignored (R106). -/
def decode (p : PortWord) : Instr :=
  let op := opField p.word
  if op = 0x0 then decodeRead (addressField p.word)
  else if op = 0x1 then decodeWrite (addressField p.word) (dataField p.word)
  else if op = 0x2 then .cyc (countField p.word)
  else if op = 0x3 then .flush
  else if op = 0x4 then .load p.beside
  else if op = 0x5 then .pull (countField p.word)
  else if op = 0x6 then .vctl (controlVoiceField p.word) (p.word.getLsbD 1) (p.word.getLsbD 0)
  else if op = 0x7 then .reset
  else .reserved

/-- Why a byte stream spells no port operation. Only a stream cut short does: every whole word decodes. -/
inductive DecodeReject
  /-- fewer than four bytes are left -/
  | truncatedWord
  /-- a LOAD word with fewer than 128 bytes after it -/
  | truncatedLoadData
  deriving DecidableEq, Repr

/-- The word whose bytes are `b0` (bits 7:0) to `b3` (bits 31:24): DESIGN CHOICE, log 12. -/
def wordOfBytes (b0 b1 b2 b3 : Byte) : BitVec 32 := b3 ++ (b2 ++ (b1 ++ b0))

/-- Decoding a byte stream: a port operation word, least significant byte first, and after a LOAD word its 128 data
bytes (DESIGN CHOICE, log 12: the spec gives the word no wire format). -/
def decodeBytes : List Byte → Except DecodeReject (Instr × List Byte)
  | b0 :: b1 :: b2 :: b3 :: rest =>
    let w := wordOfBytes b0 b1 b2 b3
    if opField w = 0x4 then
      if 128 ≤ rest.length then .ok (decode ⟨w, fixLength 128 0 rest⟩, rest.drop 128)
      else .error .truncatedLoadData
    else .ok (decode ⟨w, Vector.replicate 128 0⟩, rest)
  | _ => .error .truncatedWord

/-- The longest byte form of a port operation, LOAD's: the instruction whose bits are `w`, numbered as
spec/opcode_table.json numbers them, every bit from `nbits` up being 0. -/
def tableBytes (nbits w : Nat) : List Byte :=
  (List.range 132).map fun i => BitVec.ofNat 8 ((w % 2 ^ nbits) >>> (8 * i))

/-- The instruction the decoder reads from a table word. -/
def decodeTableWord (nbits w : Nat) : Option Instr :=
  match decodeBytes (tableBytes nbits w) with
  | .ok (i, _) => some i
  | .error _ => none

/-- The same table word as the port operation the host hands to the core. -/
def tablePortWord (nbits w : Nat) : PortWord where
  word := BitVec.ofNat 32 (w % 2 ^ nbits)
  beside := fixLength 128 0 ((tableBytes nbits w).drop 4)

/-! The encoder, from the same tables (30_encoding.md R91, R92, R106). -/

/-- The register address with voice, tap or row `v` and select `s` (30_encoding.md R90): `0x10 * v + s`. -/
def registerAddress (v : VoiceId) (s : BitVec 4) : Byte := (0#1 ++ (BitVec.ofFin (w := 3) v ++ s) : BitVec 8)

/-- A port operation word with no data beside it that matters. -/
def bareWord (w : BitVec 32) : PortWord := ⟨w, Vector.replicate 128 0⟩

/-- `RD A` (30_encoding.md R114). -/
def readWord (a : Byte) : PortWord := bareWord (0x0#4 ++ (0#12 ++ (a ++ 0#8)) : BitVec 32)

/-- `WR A, D` (30_encoding.md R114). -/
def writeWord (a d : Byte) : PortWord := bareWord (0x1#4 ++ (0#12 ++ (a ++ d)) : BitVec 32)

/-- A word with a 28-bit field after OP (30_encoding.md R106). -/
def countWord (op : BitVec 4) (n : BitVec 28) : PortWord := bareWord (op ++ n : BitVec 32)

/-- `VCTL v, solo, mute` (30_encoding.md R114). -/
def controlWord (v : VoiceId) (solo mute : Bool) : PortWord :=
  bareWord (0x6#4 ++ (0#17 ++ (BitVec.ofFin (w := 3) v ++ (0#6 ++ (BitVec.ofBool solo ++ BitVec.ofBool mute)))) : BitVec 32)

/-- The word of a well-formed instruction (30_encoding.md R106, R114). -/
def encode : Instr → PortWord
  | .rdVoll v => readWord (registerAddress v 0x0)
  | .rdVolr v => readWord (registerAddress v 0x1)
  | .rdPitchl v => readWord (registerAddress v 0x2)
  | .rdPitchh v => readWord (registerAddress v 0x3)
  | .rdSrcn v => readWord (registerAddress v 0x4)
  | .rdAdsr1 v => readWord (registerAddress v 0x5)
  | .rdAdsr2 v => readWord (registerAddress v 0x6)
  | .rdGain v => readWord (registerAddress v 0x7)
  | .rdEnvx v => readWord (registerAddress v 0x8)
  | .rdOutx v => readWord (registerAddress v 0x9)
  | .rdUnusedXA v => readWord (registerAddress v 0xA)
  | .rdUnusedXB v => readWord (registerAddress v 0xB)
  | .rdUnusedXE v => readWord (registerAddress v 0xE)
  | .rdFir v => readWord (registerAddress v 0xF)
  | .rdMvoll => readWord 0x0C
  | .rdMvolr => readWord 0x1C
  | .rdEvoll => readWord 0x2C
  | .rdEvolr => readWord 0x3C
  | .rdKon => readWord 0x4C
  | .rdKoff => readWord 0x5C
  | .rdFlg => readWord 0x6C
  | .rdEndx => readWord 0x7C
  | .rdEfb => readWord 0x0D
  | .rdUnused1D => readWord 0x1D
  | .rdPmon => readWord 0x2D
  | .rdNon => readWord 0x3D
  | .rdEon => readWord 0x4D
  | .rdDir => readWord 0x5D
  | .rdEsa => readWord 0x6D
  | .rdEdl => readWord 0x7D
  | .rdHigh a => readWord a
  | .wrVoll v d => writeWord (registerAddress v 0x0) d
  | .wrVolr v d => writeWord (registerAddress v 0x1) d
  | .wrPitchl v d => writeWord (registerAddress v 0x2) d
  | .wrPitchh v d => writeWord (registerAddress v 0x3) d
  | .wrSrcn v d => writeWord (registerAddress v 0x4) d
  | .wrAdsr1 v d => writeWord (registerAddress v 0x5) d
  | .wrAdsr2 v d => writeWord (registerAddress v 0x6) d
  | .wrGain v d => writeWord (registerAddress v 0x7) d
  | .wrEnvx v d => writeWord (registerAddress v 0x8) d
  | .wrOutx v d => writeWord (registerAddress v 0x9) d
  | .wrUnusedXA v d => writeWord (registerAddress v 0xA) d
  | .wrUnusedXB v d => writeWord (registerAddress v 0xB) d
  | .wrUnusedXE v d => writeWord (registerAddress v 0xE) d
  | .wrFir v d => writeWord (registerAddress v 0xF) d
  | .wrMvoll d => writeWord 0x0C d
  | .wrMvolr d => writeWord 0x1C d
  | .wrEvoll d => writeWord 0x2C d
  | .wrEvolr d => writeWord 0x3C d
  | .wrKon d => writeWord 0x4C d
  | .wrKoff d => writeWord 0x5C d
  | .wrFlg d => writeWord 0x6C d
  | .wrEndx d => writeWord 0x7C d
  | .wrEfb d => writeWord 0x0D d
  | .wrUnused1D d => writeWord 0x1D d
  | .wrPmon d => writeWord 0x2D d
  | .wrNon d => writeWord 0x3D d
  | .wrEon d => writeWord 0x4D d
  | .wrDir d => writeWord 0x5D d
  | .wrEsa d => writeWord 0x6D d
  | .wrEdl d => writeWord 0x7D d
  | .wrHigh a d => writeWord a d
  | .cyc n => countWord 0x2 n
  | .flush => countWord 0x3 0
  | .load data => ⟨0x40000000, data⟩
  | .pull n => countWord 0x5 n
  | .vctl v solo mute => controlWord v solo mute
  | .reset => countWord 0x7 0
  | .reserved => countWord 0x8 0

/-- The byte form `decodeBytes` reads back: the word, least significant byte first, and for LOAD its data (log 12). -/
def encodeBytes (i : Instr) : List Byte :=
  let p := encode i
  let word := [p.word.extractLsb' 0 8, p.word.extractLsb' 8 8, p.word.extractLsb' 16 8, p.word.extractLsb' 24 8]
  match i with
  | .load data => word ++ data.toList
  | _ => word

/-! The opcode table's rows, for the claims about it. -/

/-- A row of spec/opcode_table.json: `pattern` is its match. -/
structure TableRow where
  pattern : BitVec 32
  mask : BitVec 32
  deriving DecidableEq, Repr

/-- A word is an instance of the row (30_encoding.md R107). -/
def TableRow.matches (r : TableRow) (w : BitVec 32) : Bool := w &&& r.mask = r.pattern

/-- The RD_* rows. -/
def readRows : List TableRow :=
  [⟨0x00000000, 0xF0008F00⟩,
   ⟨0x00000100, 0xF0008F00⟩,
   ⟨0x00000200, 0xF0008F00⟩,
   ⟨0x00000300, 0xF0008F00⟩,
   ⟨0x00000400, 0xF0008F00⟩,
   ⟨0x00000500, 0xF0008F00⟩,
   ⟨0x00000600, 0xF0008F00⟩,
   ⟨0x00000700, 0xF0008F00⟩,
   ⟨0x00000800, 0xF0008F00⟩,
   ⟨0x00000900, 0xF0008F00⟩,
   ⟨0x00000A00, 0xF0008F00⟩,
   ⟨0x00000B00, 0xF0008F00⟩,
   ⟨0x00000E00, 0xF0008F00⟩,
   ⟨0x00000F00, 0xF0008F00⟩,
   ⟨0x00000C00, 0xF000FF00⟩,
   ⟨0x00001C00, 0xF000FF00⟩,
   ⟨0x00002C00, 0xF000FF00⟩,
   ⟨0x00003C00, 0xF000FF00⟩,
   ⟨0x00004C00, 0xF000FF00⟩,
   ⟨0x00005C00, 0xF000FF00⟩,
   ⟨0x00006C00, 0xF000FF00⟩,
   ⟨0x00007C00, 0xF000FF00⟩,
   ⟨0x00000D00, 0xF000FF00⟩,
   ⟨0x00001D00, 0xF000FF00⟩,
   ⟨0x00002D00, 0xF000FF00⟩,
   ⟨0x00003D00, 0xF000FF00⟩,
   ⟨0x00004D00, 0xF000FF00⟩,
   ⟨0x00005D00, 0xF000FF00⟩,
   ⟨0x00006D00, 0xF000FF00⟩,
   ⟨0x00007D00, 0xF000FF00⟩,
   ⟨0x00008000, 0xF0008000⟩]

/-- The WR_* rows. -/
def writeRows : List TableRow :=
  [⟨0x10000000, 0xF0008F00⟩,
   ⟨0x10000100, 0xF0008F00⟩,
   ⟨0x10000200, 0xF0008F00⟩,
   ⟨0x10000300, 0xF0008F00⟩,
   ⟨0x10000400, 0xF0008F00⟩,
   ⟨0x10000500, 0xF0008F00⟩,
   ⟨0x10000600, 0xF0008F00⟩,
   ⟨0x10000700, 0xF0008F00⟩,
   ⟨0x10000800, 0xF0008F00⟩,
   ⟨0x10000900, 0xF0008F00⟩,
   ⟨0x10000A00, 0xF0008F00⟩,
   ⟨0x10000B00, 0xF0008F00⟩,
   ⟨0x10000E00, 0xF0008F00⟩,
   ⟨0x10000F00, 0xF0008F00⟩,
   ⟨0x10000C00, 0xF000FF00⟩,
   ⟨0x10001C00, 0xF000FF00⟩,
   ⟨0x10002C00, 0xF000FF00⟩,
   ⟨0x10003C00, 0xF000FF00⟩,
   ⟨0x10004C00, 0xF000FF00⟩,
   ⟨0x10005C00, 0xF000FF00⟩,
   ⟨0x10006C00, 0xF000FF00⟩,
   ⟨0x10007C00, 0xF000FF00⟩,
   ⟨0x10000D00, 0xF000FF00⟩,
   ⟨0x10001D00, 0xF000FF00⟩,
   ⟨0x10002D00, 0xF000FF00⟩,
   ⟨0x10003D00, 0xF000FF00⟩,
   ⟨0x10004D00, 0xF000FF00⟩,
   ⟨0x10005D00, 0xF000FF00⟩,
   ⟨0x10006D00, 0xF000FF00⟩,
   ⟨0x10007D00, 0xF000FF00⟩,
   ⟨0x10008000, 0xF0008000⟩]

/-- The other rows. -/
def portRows : List TableRow :=
  [⟨0x20000000, 0xF0000000⟩,
   ⟨0x30000000, 0xF0000000⟩,
   ⟨0x40000000, 0xF0000000⟩,
   ⟨0x50000000, 0xF0000000⟩,
   ⟨0x60000000, 0xF0000000⟩,
   ⟨0x70000000, 0xF0000000⟩,
   ⟨0x80000000, 0x80000000⟩]

/-- The rows in the table's order (30_encoding.md R107). -/
def opcodeTable : List TableRow := readRows ++ writeRows ++ portRows

/-- The place of an instruction's row in the table. -/
def Instr.row : Instr → Nat
  | .rdVoll _ => 0
  | .rdVolr _ => 1
  | .rdPitchl _ => 2
  | .rdPitchh _ => 3
  | .rdSrcn _ => 4
  | .rdAdsr1 _ => 5
  | .rdAdsr2 _ => 6
  | .rdGain _ => 7
  | .rdEnvx _ => 8
  | .rdOutx _ => 9
  | .rdUnusedXA _ => 10
  | .rdUnusedXB _ => 11
  | .rdUnusedXE _ => 12
  | .rdFir _ => 13
  | .rdMvoll => 14
  | .rdMvolr => 15
  | .rdEvoll => 16
  | .rdEvolr => 17
  | .rdKon => 18
  | .rdKoff => 19
  | .rdFlg => 20
  | .rdEndx => 21
  | .rdEfb => 22
  | .rdUnused1D => 23
  | .rdPmon => 24
  | .rdNon => 25
  | .rdEon => 26
  | .rdDir => 27
  | .rdEsa => 28
  | .rdEdl => 29
  | .rdHigh _ => 30
  | .wrVoll _ _ => 31
  | .wrVolr _ _ => 32
  | .wrPitchl _ _ => 33
  | .wrPitchh _ _ => 34
  | .wrSrcn _ _ => 35
  | .wrAdsr1 _ _ => 36
  | .wrAdsr2 _ _ => 37
  | .wrGain _ _ => 38
  | .wrEnvx _ _ => 39
  | .wrOutx _ _ => 40
  | .wrUnusedXA _ _ => 41
  | .wrUnusedXB _ _ => 42
  | .wrUnusedXE _ _ => 43
  | .wrFir _ _ => 44
  | .wrMvoll _ => 45
  | .wrMvolr _ => 46
  | .wrEvoll _ => 47
  | .wrEvolr _ => 48
  | .wrKon _ => 49
  | .wrKoff _ => 50
  | .wrFlg _ => 51
  | .wrEndx _ => 52
  | .wrEfb _ => 53
  | .wrUnused1D _ => 54
  | .wrPmon _ => 55
  | .wrNon _ => 56
  | .wrEon _ => 57
  | .wrDir _ => 58
  | .wrEsa _ => 59
  | .wrEdl _ => 60
  | .wrHigh _ _ => 61
  | .cyc _ => 62
  | .flush => 63
  | .load _ => 64
  | .pull _ => 65
  | .vctl _ _ _ => 66
  | .reset => 67
  | .reserved => 68

/-! The assembler's pseudo-operations (30_encoding.md R115): each is a spelling of the operations listed. -/

/-- `KEYON mask`. -/
def pseudoKeyOn (mask : Byte) : List Instr := [.wrKon mask]

/-- `KEYOFF mask`. -/
def pseudoKeyOff (mask : Byte) : List Instr := [.wrKoff mask]

/-- `PITCH v, P`: `P[7:0]` to PITCHL, then `P[13:8]` to PITCHH. -/
def pseudoPitch (v : VoiceId) (p : BitVec 14) : List Instr :=
  [.wrPitchl v (p.extractLsb' 0 8), .wrPitchh v ((p.extractLsb' 8 6).setWidth 8)]

/-- `TICKS k`, for `64 * k` within CYC's 28 bits. -/
def pseudoTicks (k : BitVec 22) : List Instr := [.cyc (k ++ 0#6 : BitVec 28), .flush]

/-- `ECHOOFF`, which needs the current FLG. -/
def pseudoEchoOff (flg : Byte) : List Instr := [.wrFlg (flg ||| 0x20)]

end Sys2Proof
end

