-- ==== Sys2Proof/Config.lean ====
section
/-! DEFINITION. The parameters a model takes (00_scope.md R8; 10_state.md R38). They are fixed for a run. Those with a
default, and the ring capacity, are plain data held in `State.params` (log 8); the two kernels the spec leaves OPEN are
functions, so they are opaque constants here (log 9). -/

namespace Sys2Proof

/-- `RESAMPLE_KERNEL` (42_voice.md R186). -/
inductive Kernel
  | gaussian
  | linear
  | cubic
  deriving DecidableEq, Repr

/-- `PMON_SOURCE` (42_voice.md R195). -/
inductive PmonSource
  | preEnvelope
  | postEnvelope
  deriving DecidableEq, Repr

/-- `GAUSS_TABLE` (42_voice.md R187): the spec's default table, or any other 512 unsigned 11-bit weights. -/
inductive GaussTable
  | standard
  | custom (weights : Vector (BitVec 11) 512)
  deriving DecidableEq, Repr

/-- The parameters of 00_scope.md R8 that are plain data. -/
structure Params where
  /-- `RESAMPLE_KERNEL` -/
  kernel : Kernel
  /-- `GAUSS_TABLE` -/
  gaussTable : GaussTable
  /-- `PMON_SOURCE` -/
  pmonSource : PmonSource
  /-- `FLG_SILICON_EFFECTS` -/
  flgSiliconEffects : Bool
  /-- `RING_CAPACITY`, in stereo frames -/
  ringCapacity : Nat
  deriving DecidableEq, Repr

/-- `LINEAR_KERNEL`, OPEN: a total function of the window and the 12-bit phase to a signed 16-bit sample, of which
nothing else may be assumed (42_voice.md R189; log 9). FREE VALUE. -/
opaque Config.linearKernel : Window → BitVec 12 → BitVec 16

/-- `CUBIC_KERNEL`, OPEN, as `Config.linearKernel` (42_voice.md R189; log 9). FREE VALUE. -/
opaque Config.cubicKernel : Window → BitVec 12 → BitVec 16

/-- How many frames more than one the ring holds in the reset state. OPEN (46_host_port.md R353; log 8). FREE VALUE. -/
opaque Config.ringCapacityBeyondOne : Nat

/-- `RING_CAPACITY` of the reset state: OPEN, a natural number of at least 1 (46_host_port.md R353; log 8). -/
def Config.ringCapacity : Nat := Config.ringCapacityBeyondOne + 1

/-- The defaults of 00_scope.md R8. -/
def Config.params : Params where
  kernel := .gaussian
  gaussTable := .standard
  pmonSource := .preEnvelope
  flgSiliconEffects := false
  ringCapacity := Config.ringCapacity

end Sys2Proof
end

