-- ==== Sys2Proof/Machine/State.lean ====
section
/-! DEFINITION. The state of the machine: everything 10_state.md gives the core, the host's memory, the parameters of
the run, and the ports (the host inputs not yet taken, the last answer, the visualization receiver). INVENTORY.md lists
each field with its rule. -/

namespace Sys2Proof.Machine

/-- The model's fault reasons (60_exceptions.md R371). They are recorded in `State.fault`; `exec` and `step` never end
in one, because R373 says what the machine does after it (log 4). -/
inductive Fault
  /-- Raised by `tick` at its ring push when the ring already holds `RING_CAPACITY` frames (44_dsp_tick.md R237). Safe:
  the spec names the condition, the state it leaves and what follows. -/
  | ringOverflow
  deriving DecidableEq, Repr

/-- Why a step has no meaning. A word the spec itself refuses (60_exceptions.md R372, R373) is not one of these: it sets
`State.refused` and the machine goes on. -/
inductive Refusal
  /-- Raised by `exec` for an instruction the model does not give a meaning; no arm does now. Safe: the run stops. -/
  | notModelled (mnemonic : String)
  deriving DecidableEq, Repr

/-- `V[v].env_mode` (10_state.md R25; 41_envelope.md R150). -/
inductive EnvMode
  | attack
  | decay
  | sustain
  | release
  deriving DecidableEq, Repr

/-- The register bytes of a voice (10_state.md R21). -/
structure VoiceRegs where
  volL : Byte
  volR : Byte
  pitchL : Byte
  pitchH : Byte
  srcn : Byte
  adsr1 : Byte
  adsr2 : Byte
  gain : Byte
  deriving DecidableEq, Repr

/-- One voice: its register bytes (10_state.md R21), its engine state (R25 to R28) and its host controls (R29). -/
structure Voice where
  regs : VoiceRegs
  /-- `env_level`, 0..2047 -/
  envLevel : Nat
  envMode : EnvMode
  /-- `env_hidden`, -32..3071 (41_envelope.md R162) -/
  envHidden : Int
  brrAddr : Addr
  /-- `dec_samples[0..15]` -/
  decSamples : Vector Sample 16
  /-- `dec_index`, 0..16; 16 means finished -/
  decIndex : Nat
  decEnd : Bool
  decLoop : Bool
  decP1 : Sample
  decP2 : Sample
  window : Window
  /-- `phase`, 0..0xFFF -/
  phase : Nat
  endx : Bool
  outEnv : Sample
  lastRaw : Sample
  edge : Bool
  konTick : Nat
  mute : Bool
  solo : Bool
  deriving DecidableEq, Repr

/-- The global register bytes (10_state.md R21) and the key caches (R22). -/
structure Regs where
  /-- `FIR[0..7]` -/
  fir : Vector Byte 8
  mvolL : Byte
  mvolR : Byte
  evolL : Byte
  evolR : Byte
  flg : Byte
  efb : Byte
  pmon : Byte
  non : Byte
  eon : Byte
  dir : Byte
  esa : Byte
  edl : Byte
  konCache : Byte
  koffCache : Byte
  deriving DecidableEq, Repr

/-- An output frame (46_host_port.md R354): two signed 16-bit samples. -/
structure Frame where
  left : Sample
  right : Sample
  deriving DecidableEq, Repr

/-- What the tick delivers to the state receiver for one voice (44_dsp_tick.md R242). -/
structure VoiceEmission where
  srcn : Byte
  lastRaw : Sample
  envLevel : Nat
  volL : Byte
  volR : Byte
  edge : Bool
  konTick : Nat
  deriving DecidableEq, Repr

/-- What the last port operation returned to the host: nothing, a register byte (45_register_port.md R261), or frames
(46_host_port.md R355). The model's own field (log 3). -/
inductive Response
  | nothing
  | byte (b : Byte)
  | frames (out : List Frame)
  deriving DecidableEq, Repr

/-- What the host does next: a port operation (30_encoding.md R106), or a write of `bytes` to its own memory from
address `a` on (46_host_port.md R358; `MEM` of 30_encoding.md R114). -/
inductive HostInput
  | op (p : PortWord)
  | mem (a : Addr) (bytes : List Byte)
  deriving DecidableEq, Repr

/-- The 64 KiB memory, as the listed bytes in one canonical form (`Memory.wf` in Machine/Ops.lean). -/
abbrev Memory := List Host.Cell

/-- The state of the machine. -/
structure State where
  voices : Vector Voice 8
  regs : Regs
  /-- the 15-bit LFSR word `S.noise` -/
  noise : BitVec 15
  /-- the rate counter, 0..30719 -/
  counter : Nat
  /-- the echo cursor in bytes -/
  echoPos : Nat
  /-- the latched echo length in bytes -/
  echoLen : Nat
  /-- `S.hist_l`, oldest first -/
  histL : Vector Sample 8
  /-- `S.hist_r`, oldest first -/
  histR : Vector Sample 8
  /-- `S.ring`, oldest frame first -/
  ring : List Frame
  accCycles : Nat
  flushing : Bool
  ticksTotal : Nat
  fault : Option Fault
  refused : Bool
  /-- the host's memory (10_state.md R38) -/
  mem : Memory
  /-- the parameters of the run (00_scope.md R8; log 8): no step changes them -/
  params : Params
  /-- the host inputs not yet taken, the next one first (log 1) -/
  pending : List HostInput
  /-- what the last port operation returned (log 3) -/
  response : Response
  /-- the attached state receiver and what was delivered to it, one list of eight per tick, newest last (log 14) -/
  receiver : Option (List (List VoiceEmission))
  deriving DecidableEq, Repr

/-- A voice's register bytes after reset (10_state.md R21). -/
def VoiceRegs.reset : VoiceRegs where
  volL := 0x00
  volR := 0x00
  pitchL := 0x00
  pitchH := 0x00
  srcn := 0x00
  adsr1 := 0x00
  adsr2 := 0x00
  gain := 0x00

/-- A voice after reset (10_state.md R21, R25 to R29). -/
def Voice.reset : Voice where
  regs := VoiceRegs.reset
  envLevel := 0
  envMode := .release
  envHidden := 0
  brrAddr := 0x0000
  decSamples := Vector.replicate 16 0
  decIndex := 0
  decEnd := false
  decLoop := false
  decP1 := 0
  decP2 := 0
  window := ⟨0, 0, 0, 0⟩
  phase := 0
  endx := false
  outEnv := 0
  lastRaw := 0
  edge := false
  konTick := 0
  mute := false
  solo := false

/-- The global register bytes and the key caches after reset (10_state.md R21, R22). -/
def Regs.reset : Regs where
  fir := Vector.replicate 8 0x00
  mvolL := 0x00
  mvolR := 0x00
  evolL := 0x00
  evolR := 0x00
  flg := 0xE0
  efb := 0x00
  pmon := 0x00
  non := 0x00
  eon := 0x00
  dir := 0x00
  esa := 0x00
  edl := 0x00
  konCache := 0x00
  koffCache := 0x00

/-- The machine right after power-on reset (70_reset_and_hazards.md R390, R391; 10_state.md R21 to R37). The host has
put nothing into memory and issued nothing (logs 1, 7), no receiver is attached (log 14), and the parameters are the
defaults of 00_scope.md R8 (log 8). -/
def State.reset : State where
  voices := Vector.replicate 8 Voice.reset
  regs := Regs.reset
  noise := 0x4000
  counter := 0
  echoPos := 0
  echoLen := 0
  histL := Vector.replicate 8 0
  histR := Vector.replicate 8 0
  ring := []
  accCycles := 0
  flushing := false
  ticksTotal := 0
  fault := none
  refused := false
  mem := []
  params := Config.params
  pending := []
  response := .nothing
  receiver := none

end Sys2Proof.Machine
end

