-- ==== Sys2Proof/Machine/Operands.lean ====
section
/-! DEFINITION. The integer widths of 00_scope.md R11, and every operand the rules take from register bytes and memory
bytes: signed bytes, register fields, assembled addresses, byte order (30_encoding.md section 2, 20_memory.md R73). -/

namespace Sys2Proof.Machine

/-- `zext_n(v)`: the low `n` bits read unsigned (00_scope.md R11). -/
def zext (n : Nat) (v : Int) : Int := v % 2 ^ n

/-- `sext_n(v)`: the low `n` bits read as two's complement (00_scope.md R11). -/
def sext (n : Nat) (v : Int) : Int := if 2 ^ (n - 1) ≤ zext n v then zext n v - 2 ^ n else zext n v

/-- `wrap16(v)` (00_scope.md R11). -/
def wrap16 (v : Int) : Sample := sext 16 v

/-- `clamp16(v)` (00_scope.md R11). -/
def clamp16 (v : Int) : Sample := min 32767 (max (-32768) v)

/-- `v & ~1`, equal to `v - (v mod 2)` (00_scope.md R10). -/
def clearBit0 (v : Int) : Sample := v - v % 2

/-- `v[hi:lo]` of a byte as a number: `len` bits from bit `lo` (00_scope.md R9). -/
def bits (b : Byte) (lo len : Nat) : Nat := (b.extractLsb' lo len).toNat

/-- A signed register byte, `sext_8` (30_encoding.md R93). -/
def signedByte (b : Byte) : Int := b.toInt

/-- The high nibble of a BRR data byte as a signed code, `sext_4(b[7:4])` (30_encoding.md R103). -/
def highCode (b : Byte) : Int := (b.extractLsb' 4 4).toInt

/-- The low nibble of a BRR data byte as a signed code, `sext_4(b[3:0])` (30_encoding.md R103). -/
def lowCode (b : Byte) : Int := (b.extractLsb' 0 4).toInt

/-- The 16-bit value of two bytes, the lower address first: little-endian (20_memory.md R73). -/
def pair (lo hi : Byte) : BitVec 16 := (hi ++ lo : BitVec 16)

/-- `v[7:0]` of a sample (20_memory.md R73). -/
def lowByte (v : Sample) : Byte := BitVec.ofInt 8 v

/-- `v[15:8]` of a sample (20_memory.md R73). -/
def highByte (v : Sample) : Byte := BitVec.ofInt 8 (v >>> 8)

/-- A frame in a byte stream: left low, left high, right low, right high (46_host_port.md R354). -/
def Frame.bytes (f : Frame) : List Byte := [lowByte f.left, highByte f.left, lowByte f.right, highByte f.right]

/-- The 14-bit pitch `P` of a voice (30_encoding.md R94, 42_voice.md R182). -/
def basePitch (v : Voice) : Nat := bits v.regs.pitchH 0 6 * 0x100 + v.regs.pitchL.toNat

/-- ADSR_EN, ADSR1[7] (30_encoding.md R95). -/
def adsrEnabled (v : Voice) : Bool := v.regs.adsr1.msb

/-- The attack rate index `AR * 2 + 1` (41_envelope.md R151). -/
def attackRate (v : Voice) : Nat := bits v.regs.adsr1 0 4 * 2 + 1

/-- The decay rate index `DR * 2 + 16` (41_envelope.md R151). -/
def decayRate (v : Voice) : Nat := bits v.regs.adsr1 4 3 * 2 + 16

/-- The sustain rate index SR (41_envelope.md R151). -/
def sustainRate (v : Voice) : Nat := bits v.regs.adsr2 0 5

/-- GAIN[7] = 0: the direct mode (30_encoding.md R97). -/
def gainDirect (v : Voice) : Bool := !v.regs.gain.msb

/-- The target of the direct mode, `GAIN[6:0] * 16` (41_envelope.md R152). -/
def gainTarget (v : Voice) : Nat := bits v.regs.gain 0 7 * 16

/-- GAIN[6:5]: linear decrease, exponential decrease, linear increase, bent line (30_encoding.md R97). -/
def gainRamp (v : Voice) : Nat := bits v.regs.gain 5 2

/-- GAIN[4:0], the rate index of a ramp (30_encoding.md R97). -/
def gainRate (v : Voice) : Nat := bits v.regs.gain 0 5

/-- The directory entry of source `srcn`: `(DIR << 8) + srcn * 4` (30_encoding.md R100, R104). -/
def directoryEntry (dir srcn : Byte) : Addr := BitVec.ofNat 16 (dir.toNat * 0x100 + srcn.toNat * 4)

/-- The echo frame address `zext_16(ESA * 0x100 + echo_pos)` (44_dsp_tick.md R234). -/
def echoFrameAddr (s : State) : Addr := BitVec.ofNat 16 (s.regs.esa.toNat * 0x100 + s.echoPos)

/-- The echo length `EDL[3:0] * 0x800` (30_encoding.md R100). -/
def echoLength (edl : Byte) : Nat := bits edl 0 4 * 0x800

end Sys2Proof.Machine
end

