-- ==== Sys2Proof/Machine/Flags.lean ====
section
/-! DEFINITION. The bit-per-voice masks, the flags of FLG, and the derived register views. The core has no condition
codes (10_state.md R20). -/

namespace Sys2Proof.Machine

/-- `for v in 0..7` (00_scope.md R13). -/
def voiceIds : List VoiceId := [0, 1, 2, 3, 4, 5, 6, 7]

/-- Bit `v` of a voice bitmask register (30_encoding.md R99). -/
def maskBit (mask : Byte) (v : VoiceId) : Bool := mask.getLsbD v

/-- FLG[7], the soft reset (30_encoding.md R98). -/
def flgSoftReset (s : State) : Bool := s.regs.flg.getLsbD 7

/-- FLG[6], the output mute (30_encoding.md R98). -/
def flgMute (s : State) : Bool := s.regs.flg.getLsbD 6

/-- FLG[5] = 0: echo writes are enabled (30_encoding.md R98). -/
def echoWriteEnabled (s : State) : Bool := !s.regs.flg.getLsbD 5

/-- FLG[4:0], the noise rate index (30_encoding.md R98). -/
def noiseRate (s : State) : Nat := bits s.regs.flg 0 5

/-- True when any voice's `solo` is set (42_voice.md R181, 44_dsp_tick.md R229). -/
def anySolo (s : State) : Bool := voiceIds.any fun v => s.voices[v].solo

/-- `muted` (42_voice.md R199). -/
def Voice.muted (v : Voice) (anysolo : Bool) : Bool := v.mute || (anysolo && !v.solo)

/-- ENVX: `env_level >> 4` (30_encoding.md R101, 45_register_port.md R273). -/
def Voice.envx (v : Voice) : Byte := BitVec.ofNat 8 (v.envLevel >>> 4)

/-- OUTX: the high byte of `out_env` (30_encoding.md R101, 45_register_port.md R274). -/
def Voice.outx (v : Voice) : Byte := highByte v.outEnv

/-- ENDX: bit `v` is `V[v].endx` (30_encoding.md R101, 45_register_port.md R284). -/
def endxByte (s : State) : Byte :=
  BitVec.ofNat 8 ((voiceIds.map fun v => s.voices[v].endx.toNat * 2 ^ v.val).sum)

end Sys2Proof.Machine
end

