-- ==== Sys2Proof/Machine/Ops.lean ====
section
/-! DEFINITION. The named operations over memory and state that the rules share: the byte and 16-bit accesses of
20_memory.md, voice updates, the fault and refusal marks of 60_exceptions.md and the reset that clears them, and the
host's side of the port. -/

namespace Sys2Proof.Machine

/-- What a byte of memory nothing has written reads as: the spec gives memory no contents (70_reset_and_hazards.md
R392). DESIGN CHOICE, unsafe (log 7). -/
def Memory.unlisted : Byte := 0x00

/-- The byte listed at an address, or `Memory.unlisted`. -/
def Memory.byteAt : Memory → Nat → Byte
  | [], _ => Memory.unlisted
  | (k, b) :: rest, a => if a = k then b else Memory.byteAt rest a

/-- The memory with one byte changed, in canonical form. -/
def Memory.setByte : Memory → Nat → Byte → Memory
  | [], a, b => if b = Memory.unlisted then [] else [(a, b)]
  | (k, c) :: rest, a, b =>
    if a < k then (if b = Memory.unlisted then (k, c) :: rest else (a, b) :: (k, c) :: rest)
    else if a = k then (if b = Memory.unlisted then rest else (a, b) :: rest)
    else (k, c) :: Memory.setByte rest a b

/-- `MemRead(a, 1)` (00_scope.md R12, 20_memory.md R71). -/
def Memory.read (m : Memory) (a : Addr) : Byte := Memory.byteAt m a.toNat

/-- `MemWrite(a, 1, b)` (00_scope.md R12, 20_memory.md R71). -/
def Memory.write (m : Memory) (a : Addr) (b : Byte) : Memory := Memory.setByte m a.toNat b

/-- `MemRead16(a)`, little-endian, the second address modulo 2^16 (20_memory.md R73). -/
def Memory.read16 (m : Memory) (a : Addr) : BitVec 16 := pair (Memory.read m a) (Memory.read m (a + 1))

/-- A signed 16-bit value written low byte first (20_memory.md R73). -/
def Memory.write16 (m : Memory) (a : Addr) (v : Sample) : Memory :=
  Memory.write (Memory.write m a (lowByte v)) (a + 1) (highByte v)

/-- Bytes written to consecutive addresses modulo 2^16 (30_encoding.md R114 `MEM`). -/
def Memory.writeAll (m : Memory) (a : Addr) : List Byte → Memory
  | [] => m
  | b :: rest => Memory.writeAll (Memory.write m a b) (a + 1) rest

/-- Every listed address is at least `lo` and below 2^16, they rise strictly, and no listed byte is what an unlisted
address reads as. -/
def Memory.wfFrom : Nat → Memory → Bool
  | _, [] => true
  | lo, (k, b) :: rest => decide (lo ≤ k) && decide (k < 0x10000) && decide (b ≠ Memory.unlisted) && Memory.wfFrom (k + 1) rest

/-- The canonical form: equal memories are equal lists. -/
def Memory.wf (m : Memory) : Bool := Memory.wfFrom 0 m

/-- Voice `v` replaced. -/
def State.setVoice (s : State) (v : VoiceId) (x : Voice) : State := { s with voices := s.voices.set v x }

/-- Voice `v` changed by `f`. -/
def State.updateVoice (s : State) (v : VoiceId) (f : Voice → Voice) : State := s.setVoice v (f s.voices[v])

/-- `for v in 0..7` in ascending order, for the voices whose bit of `mask` is set (00_scope.md R13, 30_encoding.md
R99). -/
def State.forMask (mask : Byte) (f : VoiceId → State → State) (s : State) : State :=
  voiceIds.foldl (fun t v => if maskBit mask v then f v t else t) s

/-- `for v in 0..7` in ascending order, for every voice. -/
def State.forVoices (f : VoiceId → State → State) (s : State) : State := voiceIds.foldl (fun t v => f v t) s

/-- TAKING THE FAULT: `raise Fault(RingOverflow)` (60_exceptions.md R371). The state already changed stays changed; the
operations that call it run nothing after it. -/
def State.raiseFault (r : Fault) (s : State) : State := { s with fault := some r }

/-- What the operation returned to the host (log 3). -/
def State.answer (r : Response) (s : State) : State := { s with response := r }

/-- Refusing an operation: `S.refused <- 1`, and no value is returned (60_exceptions.md R372, R373). -/
def State.refuse (s : State) : State := State.answer .nothing { s with refused := true }

/-- THE WAY BACK FROM A FAULT, and power-on reset: every field of the core takes its reset value. The host's memory, the
parameters, and the host's side of the ports (its pending inputs, its receiver) are not the core's and stay
(70_reset_and_hazards.md R390; log 16). -/
def State.resetCore (s : State) : State :=
  { State.reset with mem := s.mem, params := s.params, pending := s.pending, receiver := s.receiver }

/-- The next host input, and the state with it taken (log 1). -/
def State.takeInput (s : State) : Option (HostInput × State) :=
  match s.pending with
  | [] => none
  | i :: rest => some (i, { s with pending := rest })

/-- The core acts only inside a host operation (20_memory.md R80): with no input nothing happens (log 2). -/
def State.idle (s : State) : State := s

/-- A write of the host to its own memory (46_host_port.md R358). It is no core operation: it neither flushes nor
answers, and the core's fault does not stop it (log 19). -/
def State.hostWrite (a : Addr) (bytes : List Byte) (s : State) : State := { s with mem := Memory.writeAll s.mem a bytes }

/-- `S.acc_cycles <- S.acc_cycles + n` (46_host_port.md R350). -/
def State.addCycles (n : Nat) (s : State) : State := { s with accCycles := s.accCycles + n }

end Sys2Proof.Machine
end

