-- ==== Sys2Proof/Machine/Brr.lean ====
section
/-! DEFINITION. The BRR block decoder (40_brr_decoder.md). -/

namespace Sys2Proof.Machine

/-- The shift step (40_brr_decoder.md R133). -/
def shiftStep (c : Int) (sh : Nat) : Int := if sh ≤ 12 then (c * 2 ^ sh) >>> 1 else if c < 0 then -2048 else 0

/-- The four filters (40_brr_decoder.md R135 to R138) on the shifted code `s`, with `p1` the previous sample and `p2`
the one before it already halved (R134). -/
def predict (filter : BitVec 2) (s p1 p2 : Int) : Int :=
  if filter = 0 then s
  else if filter = 1 then s + (p1 >>> 1) + ((-p1) >>> 5)
  else if filter = 2 then s + p1 - p2 + (p2 >>> 4) + ((p1 * -3) >>> 6)
  else s + p1 - p2 + ((p1 * -13) >>> 7) + ((p2 * 3) >>> 4)

/-- The output step: saturate, then double with wrap-around (40_brr_decoder.md R138). -/
def outputStep (s : Int) : Sample := wrap16 (clamp16 s * 2)

/-- `DecodeSample`: one code with the history `(p1, p2)` before it (40_brr_decoder.md R133 to R138). -/
def decodeSample (sh : Nat) (filter : BitVec 2) (c : Int) (p1 p2 : Sample) : Sample :=
  outputStep (predict filter (shiftStep c sh) p1 (p2 >>> 1))

/-- The samples of a list of codes in order, and the history `(dec_p1, dec_p2)` after them (40_brr_decoder.md R131,
R132, R138). -/
def decodeCodes (sh : Nat) (filter : BitVec 2) : List Int → Sample → Sample → List Sample × Sample × Sample
  | [], p1, p2 => ([], p1, p2)
  | c :: rest, p1, p2 =>
    let x := decodeSample sh filter c p1 p2
    let r := decodeCodes sh filter rest x p1
    (x :: r.1, r.2)

/-- The sixteen codes of a block's eight data bytes, high nibble first (40_brr_decoder.md R132). -/
def blockCodes (data : List Byte) : List Int := data.flatMap fun b => [highCode b, lowCode b]

/-- Bytes 1 to 8 of the block at `a`, addresses modulo 2^16 (40_brr_decoder.md R131, 20_memory.md R71). -/
def blockData (m : Memory) (a : Addr) : List Byte :=
  [Memory.read m (a + 1), Memory.read m (a + 2), Memory.read m (a + 3), Memory.read m (a + 4),
   Memory.read m (a + 5), Memory.read m (a + 6), Memory.read m (a + 7), Memory.read m (a + 8)]

/-- `DecodeBlock(a)` (40_brr_decoder.md R131): header bits 7:4 SHIFT, 3:2 FILTER, 1 LOOP, 0 END (30_encoding.md
R102). -/
def decodeBlock (m : Memory) (a : Addr) (v : Voice) : Voice :=
  let header := Memory.read m a
  let r := decodeCodes (bits header 4 4) (header.extractLsb' 2 2) (blockCodes (blockData m a)) v.decP1 v.decP2
  { v with
    decLoop := header.getLsbD 1
    decEnd := header.getLsbD 0
    decSamples := fixLength 16 0 r.1
    decIndex := 0
    decP1 := r.2.1
    decP2 := r.2.2 }

/-- `DecReset(p1, p2)` (40_brr_decoder.md R139). -/
def decReset (p1 p2 : Sample) (v : Voice) : Voice := { v with decP1 := p1, decP2 := p2 }

/-- The sample `DecPop()` returns (40_brr_decoder.md R140). Its precondition `dec_index < 16` holds in every state a run
reaches; past it there is no sample and 0 is read (log 11). -/
def decNext (v : Voice) : Sample := v.decSamples.toList.getD v.decIndex 0

/-- What `DecPop()` does to the voice (40_brr_decoder.md R140). -/
def decPop (v : Voice) : Voice := { v with decIndex := v.decIndex + 1 }

/-- `DecFinished()` (40_brr_decoder.md R141). -/
def decFinished (v : Voice) : Bool := v.decIndex = 16

end Sys2Proof.Machine
end

