-- ==== Sys2Proof/Machine/Envelope.lean ====
section
/-! DEFINITION. The envelope generator (41_envelope.md). -/

namespace Sys2Proof.Machine

/-- The document's eight envelope states (41_envelope.md R150). -/
inductive EnvState
  | release
  | attack
  | decay
  | sustain
  | gainDirect
  | gainLinearDecrease
  | gainExponentialDecrease
  | gainLinearIncrease
  deriving DecidableEq, Repr

/-- The pair (stored mode, configuration) as one of the document's states; the bent line is a linear increase
(41_envelope.md R150). -/
def envState (v : Voice) : EnvState :=
  match v.envMode with
  | .release => .release
  | .attack => if adsrEnabled v then .attack else gainState v
  | .decay => if adsrEnabled v then .decay else gainState v
  | .sustain => if adsrEnabled v then .sustain else gainState v
where
  /-- The GAIN states (41_envelope.md R150). -/
  gainState (v : Voice) : EnvState :=
    if gainDirect v then .gainDirect
    else if gainRamp v = 0 then .gainLinearDecrease
    else if gainRamp v = 1 then .gainExponentialDecrease
    else .gainLinearIncrease

/-- The exponential step: `env - 1`, then minus `env >> 8` of the result (41_envelope.md R157). -/
def exponentialStep (env : Int) : Int := (env - 1) - ((env - 1) >>> 8)

/-- `env_hidden <u 0x600`: below 0x600 as an unsigned number, so a negative value is not (41_envelope.md R154, R161). -/
def belowBend (hidden : Int) : Bool := decide (0 ≤ hidden) && decide (hidden < 0x600)

/-- The rate index of a step outside Release (41_envelope.md R154). -/
def envRate (v : Voice) : Nat :=
  if adsrEnabled v then
    match v.envMode with
    | .decay => decayRate v
    | .sustain => sustainRate v
    | .attack | .release => attackRate v
  else if gainDirect v then 31
  else gainRate v

/-- The unclamped value of a step outside Release (41_envelope.md R154, R156 to R161). -/
def envNext (v : Voice) : Int :=
  let env : Int := v.envLevel
  if adsrEnabled v then
    match v.envMode with
    | .decay => exponentialStep env
    | .sustain => exponentialStep env
    | .attack | .release => env + (if attackRate v < 31 then 32 else 1024)
  else if gainDirect v then gainTarget v
  else if gainRamp v = 0 then env - 32
  else if gainRamp v = 1 then exponentialStep env
  else if gainRamp v = 2 then env + 32
  else env + (if belowBend v.envHidden then 32 else 8)

/-- `env_data` (41_envelope.md R154, R163). -/
def envData (v : Voice) : Byte := if adsrEnabled v then v.regs.adsr2 else v.regs.gain

/-- Decay to Sustain (41_envelope.md R163). -/
def sustainTest (v : Voice) (env : Int) : EnvMode :=
  if v.envMode = .decay ∧ env >>> 8 = (bits (envData v) 5 3 : Int) then .sustain else v.envMode

/-- Outside 0..0x7FF (41_envelope.md R154). -/
def envOverflow (env : Int) : Bool := decide (env < 0) || decide (0x7FF < env)

/-- The clamp (41_envelope.md R164). -/
def envClamp (env : Int) : Nat := if env < 0 then 0 else if 0x7FF < env then 0x7FF else env.toNat

/-- Attack to Decay: as the step R154 writes it, on either overflow (41_envelope.md R154, R164; log 10). -/
def attackTest (mode : EnvMode) (env : Int) : EnvMode := if envOverflow env ∧ mode = .attack then .decay else mode

/-- `EnvTick(v)` (41_envelope.md R154), with the rate counter as it stands. -/
def envTick (counter : Nat) (v : Voice) : Voice :=
  if v.envMode = .release then { v with envLevel := v.envLevel - 8 }
  else
    let env := envNext v
    { v with
      envMode := attackTest (sustainTest v env) env
      envHidden := env
      envLevel := if counterFires counter (envRate v) then envClamp env else v.envLevel }

end Sys2Proof.Machine
end

