-- ==== Sys2Proof/Machine/VoiceEngine.lean ====
section
/-! DEFINITION. The voice: pitch, interpolation, phase advance, envelope and volume scaling, key-on and key-off
(42_voice.md). -/

namespace Sys2Proof.Machine

/-- `EffectivePitch(v, h_in)`: base pitch, modulation by the previous voice's hand-off, and the clamp to 14 bits
(42_voice.md R182 to R184). Voice 0 has no previous voice. -/
def effectivePitch (pmon : Byte) (i : VoiceId) (v : Voice) (hIn : Sample) : Nat :=
  let p0 : Int := basePitch v
  let p : Int := if i ≠ 0 ∧ maskBit pmon i then p0 + (((hIn >>> 5) * p0) >>> 10) else p0
  (min p 0x3FFF).toNat

/-- Gaussian interpolation (42_voice.md R188). -/
def interpolateGaussian (t : GaussTable) (w : Window) (phase : Nat) : Sample :=
  let o := (phase >>> 4) % 0x100
  let g (i : Nat) : Int := gaussWeight t i
  let t3 := wrap16 (((g (255 - o) * w.w0) >>> 11) + ((g (511 - o) * w.w1) >>> 11) + ((g (256 + o) * w.w2) >>> 11))
  clearBit0 (clamp16 (t3 + ((g o * w.w3) >>> 11)))

/-- `Interpolate(v)` with the kernel of the parameters (42_voice.md R186 to R189). -/
def interpolate (p : Params) (v : Voice) : Sample :=
  match p.kernel with
  | .gaussian => interpolateGaussian p.gaussTable v.window v.phase
  | .linear => (Config.linearKernel v.window (BitVec.ofNat 12 v.phase)).toInt
  | .cubic => (Config.cubicKernel v.window (BitVec.ofNat 12 v.phase)).toInt

/-- The noise word as a sample, `wrap16(S.noise * 2)` (42_voice.md R185). -/
def noiseSample (noise : BitVec 15) : Sample := wrap16 ((noise.toNat : Int) * 2)

/-- `LoopBlock(v)` (42_voice.md R193, R194). -/
def loopBlock (m : Memory) (dir : Byte) (v : Voice) : Voice :=
  { v with
    endx := true
    envMode := if v.decLoop then v.envMode else .release
    envLevel := if v.decLoop then v.envLevel else 0
    brrAddr := Memory.read16 m (directoryEntry dir v.regs.srcn + 2) }

/-- The next block in sequence (42_voice.md R192). -/
def sequentialBlock (v : Voice) : Voice := { v with brrAddr := v.brrAddr + 9 }

/-- `NextBlock(v)` (42_voice.md R191). -/
def nextBlock (m : Memory) (dir : Byte) (v : Voice) : Voice :=
  let u := if v.decEnd then loopBlock m dir v else sequentialBlock v
  decodeBlock m u.brrAddr u

/-- One crossing of a sample boundary (42_voice.md R190). -/
def advanceOne (m : Memory) (dir : Byte) (v : Voice) : Voice :=
  let x := decNext v
  let u := decPop { v with phase := v.phase - 0x1000, window := ⟨v.window.w1, v.window.w2, v.window.w3, x⟩ }
  if decFinished u then nextBlock m dir u else u

/-- `n` crossings. -/
def advanceMany (m : Memory) (dir : Byte) : Nat → Voice → Voice
  | 0, v => v
  | n + 1, v => advanceMany m dir n (advanceOne m dir v)

/-- `Advance(v, p)`: the loop runs once for each whole 0x1000 of the new phase (42_voice.md R190). -/
def advance (m : Memory) (dir : Byte) (p : Nat) (v : Voice) : Voice :=
  advanceMany m dir ((v.phase + p) / 0x1000) { v with phase := v.phase + p }

/-- Envelope scaling (42_voice.md R196). -/
def envelopeScale (raw : Sample) (level : Nat) : Sample := clearBit0 ((raw * level) >>> 11)

/-- Volume scaling by a signed byte, `>> 7` (42_voice.md R198; 44_dsp_tick.md R236, R238). -/
def volumeScale (x : Sample) (vol : Byte) : Int := (x * signedByte vol) >>> 7

/-- What a render hands back: the voice after it, its two contributions, and the hand-off (42_voice.md R181). -/
structure Rendered where
  voice : Voice
  l : Int
  r : Int
  hOut : Sample
  deriving DecidableEq, Repr

/-- The pre-envelope sample: the noise word or the interpolated window (42_voice.md R181, R185, R186). -/
def rawSample (s : State) (i : VoiceId) : Sample :=
  if maskBit s.regs.non i then noiseSample s.noise else interpolate s.params s.voices[i]

/-- `RenderVoice(v, h_in, anysolo)` (42_voice.md R180, R181, R195 to R200). -/
def renderVoice (s : State) (i : VoiceId) (hIn : Sample) (anysolo : Bool) : Rendered :=
  let v := s.voices[i]
  let raw := rawSample s i
  let envd := envelopeScale raw v.envLevel
  let u := envTick s.counter (advance s.mem s.regs.dir (effectivePitch s.regs.pmon i v hIn) v)
  { voice := { u with outEnv := envd, lastRaw := raw }
    l := if v.muted anysolo then 0 else volumeScale envd v.regs.volL
    r := if v.muted anysolo then 0 else volumeScale envd v.regs.volR
    hOut := match s.params.pmonSource with
      | .preEnvelope => raw
      | .postEnvelope => envd }

/-- `KeyOn(v)` (42_voice.md R201; 40_brr_decoder.md R139; 41_envelope.md R167). -/
def keyOnVoice (m : Memory) (dir : Byte) (ticksTotal : Nat) (v : Voice) : Voice :=
  let start := Memory.read16 m (directoryEntry dir v.regs.srcn)
  { decodeBlock m start (decReset 0 0 { v with brrAddr := start }) with
    window := ⟨0, 0, 0, 0⟩
    phase := 0
    envMode := .attack
    envLevel := 0
    envHidden := 0
    endx := false
    konTick := ticksTotal
    edge := false }

/-- `KeyOn(v)` on the state. -/
def keyOn (i : VoiceId) (s : State) : State := s.updateVoice i (keyOnVoice s.mem s.regs.dir s.ticksTotal)

/-- `KeyOff(v)` (42_voice.md R202; 41_envelope.md R168). -/
def keyOffVoice (v : Voice) : Voice := { v with envMode := .release }

/-- `KeyOff(v)` on the state. -/
def keyOff (i : VoiceId) (s : State) : State := s.updateVoice i keyOffVoice

/-- What the state receiver gets for a voice (44_dsp_tick.md R242). -/
def emission (v : Voice) : VoiceEmission where
  srcn := v.regs.srcn
  lastRaw := v.lastRaw
  envLevel := v.envLevel
  volL := v.regs.volL
  volR := v.regs.volR
  edge := v.edge
  konTick := v.konTick

end Sys2Proof.Machine
end

