-- ==== Sys2Proof/Machine/Fir.lean ====
section
/-! DEFINITION. The echo tone filter (43_echo_filter.md). -/

namespace Sys2Proof.Machine

/-- The history shift: the oldest sample goes, the input enters halved (43_echo_filter.md R211). -/
def firShift (hist : Vector Sample 8) (x : Sample) : Vector Sample 8 :=
  #v[hist[1], hist[2], hist[3], hist[4], hist[5], hist[6], hist[7], x >>> 1]

/-- One product, shifted on its own (43_echo_filter.md R212, R213). -/
def firTerm (fir : Vector Byte 8) (hist : Vector Sample 8) (k : VoiceId) : Int := (hist[k] * signedByte fir[k]) >>> 6

/-- The dot product of a shifted history (43_echo_filter.md R213). -/
def firDot (fir : Vector Byte 8) (hist : Vector Sample 8) : Sample :=
  let t := firTerm fir hist
  clearBit0 (clamp16 (wrap16 (t 0 + t 1 + t 2 + t 3 + t 4 + t 5 + t 6) + wrap16 (t 7)))

end Sys2Proof.Machine
end

