-- ==== Sys2Proof/Machine/Tick.lean ====
section
/-! DEFINITION. The tick: noise, voices, mixing, echo, output, counters, visualization (44_dsp_tick.md R225). -/

namespace Sys2Proof.Machine

/-- Step 0 for one voice: Release at level 0 (44_dsp_tick.md R241). -/
def softResetVoice (v : Voice) : Voice := { v with envMode := .release, envLevel := 0 }

/-- Step 0: the soft reset, only with `FLG_SILICON_EFFECTS` (44_dsp_tick.md R241). -/
def flgSiliconEffects (s : State) : State :=
  if s.params.flgSiliconEffects && flgSoftReset s then s.forVoices (fun v t => t.updateVoice v softResetVoice) else s

/-- The LFSR step (44_dsp_tick.md R228): bit 0 xor bit 1 enters at bit 14. -/
def noiseNext (n : BitVec 15) : BitVec 15 := (((n <<< 13) ^^^ (n <<< 14)) &&& 0x4000) ^^^ (n >>> 1)

/-- Step 1: `NoiseStep()` (44_dsp_tick.md R228). -/
def noiseStep (s : State) : State := if counterFires s.counter (noiseRate s) then { s with noise := noiseNext s.noise } else s

/-- The accumulators of the voice loop and the hand-off (44_dsp_tick.md R229). -/
structure Mix where
  ml : Sample
  mr : Sample
  el : Sample
  er : Sample
  h : Sample
  deriving DecidableEq, Repr

/-- The accumulators before voice 0 (44_dsp_tick.md R229). -/
def Mix.start : Mix := ⟨0, 0, 0, 0, 0⟩

/-- One voice's contribution: every addition saturates, and the echo sums take only voices with EON set (44_dsp_tick.md
R229, R230, R233). -/
def Mix.add (m : Mix) (echo : Bool) (l r : Int) (hOut : Sample) : Mix where
  ml := clamp16 (m.ml + l)
  mr := clamp16 (m.mr + r)
  el := if echo then clamp16 (m.el + l) else m.el
  er := if echo then clamp16 (m.er + r) else m.er
  h := hOut

/-- One turn of the voice loop (44_dsp_tick.md R229). -/
def renderStep (anysolo : Bool) (x : State × Mix) (i : VoiceId) : State × Mix :=
  let out := renderVoice x.1 i x.2.h anysolo
  (x.1.setVoice i out.voice, x.2.add (maskBit x.1.regs.eon i) out.l out.r out.hOut)

/-- Steps 2 to 4: the voice loop (44_dsp_tick.md R229). -/
def renderVoices (s : State) : State × Mix := voiceIds.foldl (renderStep (anySolo s)) (s, Mix.start)

/-- The two FIR outputs of a tick. -/
structure EchoOut where
  fl : Sample
  fr : Sample
  deriving DecidableEq, Repr

/-- Step 5, first half: the echo read and the histories after it (44_dsp_tick.md R234, R235). -/
def echoRead (s : State) : State :=
  let f := echoFrameAddr s
  { s with
    histL := firShift s.histL (Memory.read16 s.mem f).toInt
    histR := firShift s.histR (Memory.read16 s.mem (f + 2)).toInt }

/-- The FIR outputs of the histories as they stand after `echoRead` (43_echo_filter.md R213). -/
def firOut (s : State) : EchoOut := ⟨firDot s.regs.fir s.histL, firDot s.regs.fir s.histR⟩

/-- One channel of the output: both terms wrapped, the sum clamped (44_dsp_tick.md R236). -/
def outputSample (mix : Sample) (mvol : Byte) (fir : Sample) (evol : Byte) : Sample :=
  clamp16 (wrap16 (volumeScale mix mvol) + wrap16 (volumeScale fir evol))

/-- Step 5, second half: the output frame (44_dsp_tick.md R236; the mute of R241). -/
def outputFrame (s : State) (m : Mix) (e : EchoOut) : Frame :=
  if s.params.flgSiliconEffects && flgMute s then ⟨0, 0⟩
  else ⟨outputSample m.ml s.regs.mvolL e.fl s.regs.evolL, outputSample m.mr s.regs.mvolR e.fr s.regs.evolR⟩

/-- The ring already holds `RING_CAPACITY` frames (44_dsp_tick.md R237; log 22). -/
def ringFull (s : State) : Bool := decide (s.params.ringCapacity ≤ s.ring.length)

/-- The frame goes to the back of the ring (44_dsp_tick.md R237). -/
def ringPush (f : Frame) (s : State) : State := { s with ring := s.ring ++ [f] }

/-- One channel of the echo write: send plus feedback, saturated, bit 0 cleared (44_dsp_tick.md R238). -/
def echoSample (send : Sample) (fir : Sample) (efb : Byte) : Sample :=
  clearBit0 (clamp16 (send + wrap16 (volumeScale fir efb)))

/-- Step 6: the echo write (44_dsp_tick.md R238). -/
def echoWrite (m : Mix) (e : EchoOut) (s : State) : State :=
  if echoWriteEnabled s then
    let f := echoFrameAddr s
    { s with mem := Memory.write16 (Memory.write16 s.mem f (echoSample m.el e.fl s.regs.efb)) (f + 2) (echoSample m.er e.fr s.regs.efb) }
  else s

/-- Step 7: the echo cursor and the length latch (44_dsp_tick.md R239). -/
def echoCursor (s : State) : State :=
  let len := if s.echoPos = 0 then echoLength s.regs.edl else s.echoLen
  { s with echoLen := len, echoPos := if len ≤ s.echoPos + 4 then 0 else s.echoPos + 4 }

/-- Step 8: `(S.counter - 1) mod 30720`, and the tick count (44_dsp_tick.md R240). -/
def counterStep (s : State) : State :=
  { s with counter := if s.counter = 0 then 30719 else (s.counter - 1) % 30720, ticksTotal := s.ticksTotal + 1 }

/-- Step 9: the attached receiver gets one tuple per voice; the core's state is only read (44_dsp_tick.md R242; log
14). -/
def emitVisualization (s : State) : State :=
  { s with receiver := s.receiver.map (· ++ [voiceIds.map fun v => emission s.voices[v]]) }

/-- Steps 0 to 4. -/
def tickRender (s : State) : State × Mix := renderVoices (noiseStep (flgSiliconEffects s))

/-- Steps 6 to 9, after the push. -/
def tickFinish (m : Mix) (e : EchoOut) (s : State) : State :=
  emitVisualization (counterStep (echoCursor (echoWrite m e s)))

/-- `Tick()` (44_dsp_tick.md R225). A full ring raises the fault at the push: nothing is appended and steps 6 to 9 do not
run (R237; 60_exceptions.md R371). -/
def tick (s : State) : State :=
  let x := tickRender s
  let t := echoRead x.1
  let e := firOut t
  if ringFull t then t.raiseFault .ringOverflow
  else tickFinish x.2 e (ringPush (outputFrame t x.2 e) t)

end Sys2Proof.Machine
end

