-- ==== Sys2Proof/Machine/Port.lean ====
section
/-! DEFINITION. The flush, and the shape every port operation has (45_register_port.md R260, R261; 46_host_port.md R351;
60_exceptions.md R371 to R374). -/

namespace Sys2Proof.Machine

/-- The 64 cycles of a completed tick are taken off (46_host_port.md R351). -/
def State.spendTick (s : State) : State := { s with accCycles := s.accCycles - 64 }

/-- `n` turns of the flush loop. A tick that faults stops it and keeps its 64 cycles (46_host_port.md R351;
60_exceptions.md R371). -/
def runTicks : Nat → State → State
  | 0, s => s
  | n + 1, s =>
    let t := tick s
    if t.fault.isSome then t else runTicks n t.spendTick

/-- The `S.flushing` bit (10_state.md R35). -/
def State.setFlushing (b : Bool) (s : State) : State := { s with flushing := b }

/-- `Flush()` (46_host_port.md R351): the loop runs once for each whole 64 pending cycles. `S.flushing` is true "exactly
while a flush is in progress" (10_state.md R35), so it is false again also after a flush that faulted (log 6). -/
def flush (s : State) : State := (runTicks (s.accCycles / 64) (s.setFlushing true)).setFlushing false

/-- `if not S.flushing: Flush()` (45_register_port.md R260, R263). -/
def State.synced (s : State) : State := if s.flushing then s else flush s

/-- The end of an operation that first flushes: after a fault it ends with no value (45_register_port.md R260, R261;
60_exceptions.md R371), else `finish` does the rest. -/
def afterFlush (finish : State → State) (t : State) : State := if t.fault.isSome then t.answer .nothing else finish t

/-- A port operation other than RESET: refused while the core is faulted (60_exceptions.md R373, R374). -/
def portOp (op : State → State) (s : State) : Host.Outcome State Fault Refusal :=
  .next (if s.fault.isSome then s.refuse else op s)

/-- `WR(a, d)` of an address 0x00..0x7F whose `WriteEffect` is `effect` (45_register_port.md R260). -/
def portWrite (effect : State → State) (s : State) : Host.Outcome State Fault Refusal :=
  portOp (fun s => afterFlush (fun t => (effect t).answer .nothing) s.synced) s

/-- `RD(a)` of an address 0x00..0x7F whose `ReadValue` is `value` (45_register_port.md R261). -/
def portRead (value : State → Byte) (s : State) : Host.Outcome State Fault Refusal :=
  portOp (fun s => afterFlush (fun t => t.answer (.byte (value t))) s.synced) s

/-- An access to 0x80..0xFF: no flush, nothing changes, and the answer is `r` (45_register_port.md R262). -/
def portIgnored (r : Response) (s : State) : Host.Outcome State Fault Refusal := portOp (fun s => s.answer r) s

end Sys2Proof.Machine
end

