-- ==== Sys2Proof/Machine/Registers.lean ====
section
/-! DEFINITION. What a write to each register does and what a read of each returns, once the flush before the access is
done (45_register_port.md R264 to R292). `ignoreWrite` and `readZero` are the accesses the spec says are ignored. -/

namespace Sys2Proof.Machine

/-- A write that changes nothing (45_register_port.md R273 to R275, R286). -/
def ignoreWrite (s : State) : State := s

/-- A read of an address with no function (45_register_port.md R275, R286). -/
def readZero (_s : State) : Byte := 0x00

/-- Write of VOLL (45_register_port.md R265). -/
def writeVoll (v : VoiceId) (d : Byte) (s : State) : State := s.updateVoice v fun x => { x with regs := { x.regs with volL := d } }

/-- Read of VOLL (45_register_port.md R265). -/
def readVoll (v : VoiceId) (s : State) : Byte := s.voices[v].regs.volL

/-- Write of VOLR (45_register_port.md R266). -/
def writeVolr (v : VoiceId) (d : Byte) (s : State) : State := s.updateVoice v fun x => { x with regs := { x.regs with volR := d } }

/-- Read of VOLR (45_register_port.md R266). -/
def readVolr (v : VoiceId) (s : State) : Byte := s.voices[v].regs.volR

/-- Write of PITCHL (45_register_port.md R267). -/
def writePitchl (v : VoiceId) (d : Byte) (s : State) : State := s.updateVoice v fun x => { x with regs := { x.regs with pitchL := d } }

/-- Read of PITCHL (45_register_port.md R267). -/
def readPitchl (v : VoiceId) (s : State) : Byte := s.voices[v].regs.pitchL

/-- Write of PITCHH (45_register_port.md R268). -/
def writePitchh (v : VoiceId) (d : Byte) (s : State) : State := s.updateVoice v fun x => { x with regs := { x.regs with pitchH := d } }

/-- Read of PITCHH (45_register_port.md R268). -/
def readPitchh (v : VoiceId) (s : State) : Byte := s.voices[v].regs.pitchH

/-- Write of SRCN: the byte, and the edge flag (45_register_port.md R269; 42_voice.md R203). -/
def writeSrcn (v : VoiceId) (d : Byte) (s : State) : State := s.updateVoice v fun x => { x with regs := { x.regs with srcn := d }, edge := true }

/-- Read of SRCN (45_register_port.md R269). -/
def readSrcn (v : VoiceId) (s : State) : Byte := s.voices[v].regs.srcn

/-- Write of ADSR1 (45_register_port.md R270). -/
def writeAdsr1 (v : VoiceId) (d : Byte) (s : State) : State := s.updateVoice v fun x => { x with regs := { x.regs with adsr1 := d } }

/-- Read of ADSR1 (45_register_port.md R270). -/
def readAdsr1 (v : VoiceId) (s : State) : Byte := s.voices[v].regs.adsr1

/-- Write of ADSR2 (45_register_port.md R271). -/
def writeAdsr2 (v : VoiceId) (d : Byte) (s : State) : State := s.updateVoice v fun x => { x with regs := { x.regs with adsr2 := d } }

/-- Read of ADSR2 (45_register_port.md R271). -/
def readAdsr2 (v : VoiceId) (s : State) : Byte := s.voices[v].regs.adsr2

/-- Write of GAIN (45_register_port.md R272). -/
def writeGain (v : VoiceId) (d : Byte) (s : State) : State := s.updateVoice v fun x => { x with regs := { x.regs with gain := d } }

/-- Read of GAIN (45_register_port.md R272). -/
def readGain (v : VoiceId) (s : State) : Byte := s.voices[v].regs.gain

/-- Read of ENVX, derived (45_register_port.md R273). -/
def readEnvx (v : VoiceId) (s : State) : Byte := s.voices[v].envx

/-- Read of OUTX, derived (45_register_port.md R274). -/
def readOutx (v : VoiceId) (s : State) : Byte := s.voices[v].outx

/-- Write of FIR coefficient `v` (45_register_port.md R276). -/
def writeFir (v : VoiceId) (d : Byte) (s : State) : State := { s with regs := { s.regs with fir := s.regs.fir.set v d } }

/-- Read of FIR coefficient `v` (45_register_port.md R276). -/
def readFir (v : VoiceId) (s : State) : Byte := s.regs.fir[v]

/-- Write of MVOLL (45_register_port.md R277). -/
def writeMvoll (d : Byte) (s : State) : State := { s with regs := { s.regs with mvolL := d } }

/-- Read of MVOLL (45_register_port.md R277). -/
def readMvoll (s : State) : Byte := s.regs.mvolL

/-- Write of MVOLR (45_register_port.md R278). -/
def writeMvolr (d : Byte) (s : State) : State := { s with regs := { s.regs with mvolR := d } }

/-- Read of MVOLR (45_register_port.md R278). -/
def readMvolr (s : State) : Byte := s.regs.mvolR

/-- Write of EVOLL (45_register_port.md R279). -/
def writeEvoll (d : Byte) (s : State) : State := { s with regs := { s.regs with evolL := d } }

/-- Read of EVOLL (45_register_port.md R279). -/
def readEvoll (s : State) : Byte := s.regs.evolL

/-- Write of EVOLR (45_register_port.md R280). -/
def writeEvolr (d : Byte) (s : State) : State := { s with regs := { s.regs with evolR := d } }

/-- Read of EVOLR (45_register_port.md R280). -/
def readEvolr (s : State) : Byte := s.regs.evolR

/-- Write of KON: the cache, then `KeyOn` of every voice whose bit is set, in ascending order (45_register_port.md
R281). -/
def writeKon (d : Byte) (s : State) : State := { s with regs := { s.regs with konCache := d } }.forMask d keyOn

/-- Read of KON (45_register_port.md R281). -/
def readKon (s : State) : Byte := s.regs.konCache

/-- Write of KOFF: the cache, then `KeyOff` of every voice whose bit is set (45_register_port.md R282). -/
def writeKoff (d : Byte) (s : State) : State := { s with regs := { s.regs with koffCache := d } }.forMask d keyOff

/-- Read of KOFF (45_register_port.md R282). -/
def readKoff (s : State) : Byte := s.regs.koffCache

/-- Write of FLG (45_register_port.md R283). -/
def writeFlg (d : Byte) (s : State) : State := { s with regs := { s.regs with flg := d } }

/-- Read of FLG (45_register_port.md R283). -/
def readFlg (s : State) : Byte := s.regs.flg

/-- Write of ENDX: every flag is cleared, whatever the value (45_register_port.md R284). -/
def writeEndx (s : State) : State := s.forVoices fun v t => t.updateVoice v fun x => { x with endx := false }

/-- Read of ENDX, derived (45_register_port.md R284). -/
def readEndx (s : State) : Byte := endxByte s

/-- Write of EFB (45_register_port.md R285). -/
def writeEfb (d : Byte) (s : State) : State := { s with regs := { s.regs with efb := d } }

/-- Read of EFB (45_register_port.md R285). -/
def readEfb (s : State) : Byte := s.regs.efb

/-- Write of PMON (45_register_port.md R287). -/
def writePmon (d : Byte) (s : State) : State := { s with regs := { s.regs with pmon := d } }

/-- Read of PMON (45_register_port.md R287). -/
def readPmon (s : State) : Byte := s.regs.pmon

/-- Write of NON (45_register_port.md R288). -/
def writeNon (d : Byte) (s : State) : State := { s with regs := { s.regs with non := d } }

/-- Read of NON (45_register_port.md R288). -/
def readNon (s : State) : Byte := s.regs.non

/-- Write of EON (45_register_port.md R289). -/
def writeEon (d : Byte) (s : State) : State := { s with regs := { s.regs with eon := d } }

/-- Read of EON (45_register_port.md R289). -/
def readEon (s : State) : Byte := s.regs.eon

/-- Write of DIR (45_register_port.md R290). -/
def writeDir (d : Byte) (s : State) : State := { s with regs := { s.regs with dir := d } }

/-- Read of DIR (45_register_port.md R290). -/
def readDir (s : State) : Byte := s.regs.dir

/-- Write of ESA (45_register_port.md R291). -/
def writeEsa (d : Byte) (s : State) : State := { s with regs := { s.regs with esa := d } }

/-- Read of ESA (45_register_port.md R291). -/
def readEsa (s : State) : Byte := s.regs.esa

/-- Write of EDL (45_register_port.md R292). -/
def writeEdl (d : Byte) (s : State) : State := { s with regs := { s.regs with edl := d } }

/-- Read of EDL (45_register_port.md R292). -/
def readEdl (s : State) : Byte := s.regs.edl

/-- `WriteEffect` of the global column 0x_C (30_encoding.md R92). -/
def writeColumnC (row : VoiceId) (d : Byte) (s : State) : State :=
  match row with
  | 0 => writeMvoll d s
  | 1 => writeMvolr d s
  | 2 => writeEvoll d s
  | 3 => writeEvolr d s
  | 4 => writeKon d s
  | 5 => writeKoff d s
  | 6 => writeFlg d s
  | 7 => writeEndx s

/-- `WriteEffect` of the global column 0x_D (30_encoding.md R92). -/
def writeColumnD (row : VoiceId) (d : Byte) (s : State) : State :=
  match row with
  | 0 => writeEfb d s
  | 1 => ignoreWrite s
  | 2 => writePmon d s
  | 3 => writeNon d s
  | 4 => writeEon d s
  | 5 => writeDir d s
  | 6 => writeEsa d s
  | 7 => writeEdl d s

/-- `WriteEffect(a, d)` by address class, for an address 0x00..0x7F (45_register_port.md R260, R293; 30_encoding.md
R91). The last branch is select 0xF, the only value left. -/
def writeEffect (a d : Byte) (s : State) : State :=
  let v := voiceField a
  let x := selectField a
  if x = 0x0 then writeVoll v d s
  else if x = 0x1 then writeVolr v d s
  else if x = 0x2 then writePitchl v d s
  else if x = 0x3 then writePitchh v d s
  else if x = 0x4 then writeSrcn v d s
  else if x = 0x5 then writeAdsr1 v d s
  else if x = 0x6 then writeAdsr2 v d s
  else if x = 0x7 then writeGain v d s
  else if x = 0x8 then ignoreWrite s
  else if x = 0x9 then ignoreWrite s
  else if x = 0xA then ignoreWrite s
  else if x = 0xB then ignoreWrite s
  else if x = 0xC then writeColumnC v d s
  else if x = 0xD then writeColumnD v d s
  else if x = 0xE then ignoreWrite s
  else writeFir v d s

/-- `WR(a, d)` of an address 0x00..0x7F inside another operation: its own flush, then its effect (45_register_port.md
R260; 46_host_port.md R352). -/
def registerWrite (a d : Byte) (s : State) : State := afterFlush (fun t => (writeEffect a d t).answer .nothing) s.synced

end Sys2Proof.Machine
end

