-- ==== Sys2Proof/Machine/GlobalReads.lean ====
section
/-! DEFINITION. The reads of the global registers and of the addresses above 0x7F (45_register_port.md R261, R262, R277 to R292). -/

namespace Sys2Proof.Machine

/-- RD_MVOLL: flush, then the value (45_register_port.md R277). -/
def execRdMvoll (s : State) : Host.Outcome State Fault Refusal := portRead readMvoll s

/-- RD_MVOLR: flush, then the value (45_register_port.md R278). -/
def execRdMvolr (s : State) : Host.Outcome State Fault Refusal := portRead readMvolr s

/-- RD_EVOLL: flush, then the value (45_register_port.md R279). -/
def execRdEvoll (s : State) : Host.Outcome State Fault Refusal := portRead readEvoll s

/-- RD_EVOLR: flush, then the value (45_register_port.md R280). -/
def execRdEvolr (s : State) : Host.Outcome State Fault Refusal := portRead readEvolr s

/-- RD_KON: flush, then the value (45_register_port.md R281). -/
def execRdKon (s : State) : Host.Outcome State Fault Refusal := portRead readKon s

/-- RD_KOFF: flush, then the value (45_register_port.md R282). -/
def execRdKoff (s : State) : Host.Outcome State Fault Refusal := portRead readKoff s

/-- RD_FLG: flush, then the value (45_register_port.md R283). -/
def execRdFlg (s : State) : Host.Outcome State Fault Refusal := portRead readFlg s

/-- RD_ENDX: flush, then the value (45_register_port.md R284). -/
def execRdEndx (s : State) : Host.Outcome State Fault Refusal := portRead readEndx s

/-- RD_EFB: flush, then the value (45_register_port.md R285). -/
def execRdEfb (s : State) : Host.Outcome State Fault Refusal := portRead readEfb s

/-- RD_UNUSED_1D: flush, then 0x00 (45_register_port.md R286). -/
def execRdUnused1D (s : State) : Host.Outcome State Fault Refusal := portRead readZero s

/-- RD_PMON: flush, then the value (45_register_port.md R287). -/
def execRdPmon (s : State) : Host.Outcome State Fault Refusal := portRead readPmon s

/-- RD_NON: flush, then the value (45_register_port.md R288). -/
def execRdNon (s : State) : Host.Outcome State Fault Refusal := portRead readNon s

/-- RD_EON: flush, then the value (45_register_port.md R289). -/
def execRdEon (s : State) : Host.Outcome State Fault Refusal := portRead readEon s

/-- RD_DIR: flush, then the value (45_register_port.md R290). -/
def execRdDir (s : State) : Host.Outcome State Fault Refusal := portRead readDir s

/-- RD_ESA: flush, then the value (45_register_port.md R291). -/
def execRdEsa (s : State) : Host.Outcome State Fault Refusal := portRead readEsa s

/-- RD_EDL: flush, then the value (45_register_port.md R292). -/
def execRdEdl (s : State) : Host.Outcome State Fault Refusal := portRead readEdl s

/-- RD_HIGH: 0x00 with no flush (45_register_port.md R262). -/
def execRdHigh (_a : Byte) (s : State) : Host.Outcome State Fault Refusal := portIgnored (.byte 0x00) s

end Sys2Proof.Machine
end

