-- ==== Sys2Proof/Machine/GlobalWrites.lean ====
section
/-! DEFINITION. The writes of the global registers and of the addresses above 0x7F (45_register_port.md R260, R262, R277 to R292). -/

namespace Sys2Proof.Machine

/-- WR_MVOLL: flush, then the store (45_register_port.md R277). -/
def execWrMvoll (d : Byte) (s : State) : Host.Outcome State Fault Refusal := portWrite (writeMvoll d) s

/-- WR_MVOLR: flush, then the store (45_register_port.md R278). -/
def execWrMvolr (d : Byte) (s : State) : Host.Outcome State Fault Refusal := portWrite (writeMvolr d) s

/-- WR_EVOLL: flush, then the store (45_register_port.md R279). -/
def execWrEvoll (d : Byte) (s : State) : Host.Outcome State Fault Refusal := portWrite (writeEvoll d) s

/-- WR_EVOLR: flush, then the store (45_register_port.md R280). -/
def execWrEvolr (d : Byte) (s : State) : Host.Outcome State Fault Refusal := portWrite (writeEvolr d) s

/-- WR_KON: flush, then the cache and the voices (45_register_port.md R281). -/
def execWrKon (d : Byte) (s : State) : Host.Outcome State Fault Refusal := portWrite (writeKon d) s

/-- WR_KOFF: flush, then the cache and the voices (45_register_port.md R282). -/
def execWrKoff (d : Byte) (s : State) : Host.Outcome State Fault Refusal := portWrite (writeKoff d) s

/-- WR_FLG: flush, then the store (45_register_port.md R283). -/
def execWrFlg (d : Byte) (s : State) : Host.Outcome State Fault Refusal := portWrite (writeFlg d) s

/-- WR_ENDX: flush, then every ENDX flag is cleared (45_register_port.md R284). -/
def execWrEndx (_d : Byte) (s : State) : Host.Outcome State Fault Refusal := portWrite writeEndx s

/-- WR_EFB: flush, then the store (45_register_port.md R285). -/
def execWrEfb (d : Byte) (s : State) : Host.Outcome State Fault Refusal := portWrite (writeEfb d) s

/-- WR_UNUSED_1D: flush, and the write is ignored (45_register_port.md R286). -/
def execWrUnused1D (_d : Byte) (s : State) : Host.Outcome State Fault Refusal := portWrite ignoreWrite s

/-- WR_PMON: flush, then the store (45_register_port.md R287). -/
def execWrPmon (d : Byte) (s : State) : Host.Outcome State Fault Refusal := portWrite (writePmon d) s

/-- WR_NON: flush, then the store (45_register_port.md R288). -/
def execWrNon (d : Byte) (s : State) : Host.Outcome State Fault Refusal := portWrite (writeNon d) s

/-- WR_EON: flush, then the store (45_register_port.md R289). -/
def execWrEon (d : Byte) (s : State) : Host.Outcome State Fault Refusal := portWrite (writeEon d) s

/-- WR_DIR: flush, then the store (45_register_port.md R290). -/
def execWrDir (d : Byte) (s : State) : Host.Outcome State Fault Refusal := portWrite (writeDir d) s

/-- WR_ESA: flush, then the store (45_register_port.md R291). -/
def execWrEsa (d : Byte) (s : State) : Host.Outcome State Fault Refusal := portWrite (writeEsa d) s

/-- WR_EDL: flush, then the store (45_register_port.md R292). -/
def execWrEdl (d : Byte) (s : State) : Host.Outcome State Fault Refusal := portWrite (writeEdl d) s

/-- WR_HIGH: nothing changes and nothing flushes (45_register_port.md R262). -/
def execWrHigh (_a _d : Byte) (s : State) : Host.Outcome State Fault Refusal := portIgnored .nothing s

end Sys2Proof.Machine
end

