-- ==== Sys2Proof/Machine/HostPort.lean ====
section
/-! DEFINITION. The host port: cycles, flush, bulk load, output, voice controls, reset, and the reserved words (46_host_port.md,
70_reset_and_hazards.md R390, 60_exceptions.md R372). -/

namespace Sys2Proof.Machine

/-- CYC: cycles are added and no tick runs (46_host_port.md R350). -/
def execCyc (n : BitVec 28) (s : State) : Host.Outcome State Fault Refusal := portOp (fun s => (s.addCycles n.toNat).answer .nothing) s

/-- FLUSH (46_host_port.md R351). -/
def execFlush (s : State) : Host.Outcome State Fault Refusal := portOp (fun s => (flush s).answer .nothing) s

/-- The addresses LOAD writes, in order: 0x00 to 0x7F without KON and KOFF, then KON (46_host_port.md R352). -/
def loadOrder : List Nat := ((List.range 128).filter fun a => a ≠ 0x4C && a ≠ 0x5C) ++ [0x4C]

/-- LOAD's writes in order, each an ordinary register write with its flush. A flush that faults ends the operation
(46_host_port.md R352; 60_exceptions.md R371; log 18). -/
def loadWrites (data : Vector Byte 128) : List Nat → State → State
  | [], s => s
  | a :: rest, s =>
    let t := registerWrite (BitVec.ofNat 8 a) (data.toList.getD a 0) s
    if t.fault.isSome then t else loadWrites data rest t

/-- LOAD (46_host_port.md R352). -/
def execLoad (data : Vector Byte 128) (s : State) : Host.Outcome State Fault Refusal := portOp (loadWrites data loadOrder) s

/-- The `n` oldest frames leave the ring, or as many as there are, and are the answer; no flush (46_host_port.md
R355). -/
def pullFrames (n : Nat) (s : State) : State := State.answer (.frames (s.ring.take n)) { s with ring := s.ring.drop n }

/-- PULL (46_host_port.md R355). -/
def execPull (n : BitVec 28) (s : State) : Host.Outcome State Fault Refusal := portOp (pullFrames n.toNat) s

/-- A voice's host controls (46_host_port.md R356). -/
def setControls (v : VoiceId) (solo mute : Bool) (s : State) : State := s.updateVoice v fun x => { x with solo := solo, mute := mute }

/-- VCTL: flush, then the controls (46_host_port.md R356). -/
def execVctl (v : VoiceId) (solo mute : Bool) (s : State) : Host.Outcome State Fault Refusal := portWrite (setControls v solo mute) s

/-- RESET, accepted also while faulted; no tick, no flush (70_reset_and_hazards.md R390). -/
def execReset (s : State) : Host.Outcome State Fault Refusal := .next s.resetCore

/-- A reserved word: the refusal mark and nothing else, faulted or not (60_exceptions.md R372, R374). -/
def execReserved (s : State) : Host.Outcome State Fault Refusal := .next s.refuse

end Sys2Proof.Machine
end

