-- ==== Sys2Proof/Machine/VoiceReads.lean ====
section
/-! DEFINITION. The reads of the per-voice registers and of the FIR coefficients (45_register_port.md R261, R265 to R276). -/

namespace Sys2Proof.Machine

/-- RD_VOLL: flush, then the value (45_register_port.md R261, R265). -/
def execRdVoll (v : VoiceId) (s : State) : Host.Outcome State Fault Refusal := portRead (readVoll v) s

/-- RD_VOLR: flush, then the value (45_register_port.md R261, R266). -/
def execRdVolr (v : VoiceId) (s : State) : Host.Outcome State Fault Refusal := portRead (readVolr v) s

/-- RD_PITCHL: flush, then the value (45_register_port.md R261, R267). -/
def execRdPitchl (v : VoiceId) (s : State) : Host.Outcome State Fault Refusal := portRead (readPitchl v) s

/-- RD_PITCHH: flush, then the value (45_register_port.md R261, R268). -/
def execRdPitchh (v : VoiceId) (s : State) : Host.Outcome State Fault Refusal := portRead (readPitchh v) s

/-- RD_SRCN: flush, then the value (45_register_port.md R261, R269). -/
def execRdSrcn (v : VoiceId) (s : State) : Host.Outcome State Fault Refusal := portRead (readSrcn v) s

/-- RD_ADSR1: flush, then the value (45_register_port.md R261, R270). -/
def execRdAdsr1 (v : VoiceId) (s : State) : Host.Outcome State Fault Refusal := portRead (readAdsr1 v) s

/-- RD_ADSR2: flush, then the value (45_register_port.md R261, R271). -/
def execRdAdsr2 (v : VoiceId) (s : State) : Host.Outcome State Fault Refusal := portRead (readAdsr2 v) s

/-- RD_GAIN: flush, then the value (45_register_port.md R261, R272). -/
def execRdGain (v : VoiceId) (s : State) : Host.Outcome State Fault Refusal := portRead (readGain v) s

/-- RD_ENVX: flush, then the value (45_register_port.md R261, R273). -/
def execRdEnvx (v : VoiceId) (s : State) : Host.Outcome State Fault Refusal := portRead (readEnvx v) s

/-- RD_OUTX: flush, then the value (45_register_port.md R261, R274). -/
def execRdOutx (v : VoiceId) (s : State) : Host.Outcome State Fault Refusal := portRead (readOutx v) s

/-- RD_UNUSED_xA: flush, then 0x00; the voice number selects nothing (45_register_port.md R275). -/
def execRdUnusedXA (_v : VoiceId) (s : State) : Host.Outcome State Fault Refusal := portRead readZero s

/-- RD_UNUSED_xB: flush, then 0x00; the voice number selects nothing (45_register_port.md R275). -/
def execRdUnusedXB (_v : VoiceId) (s : State) : Host.Outcome State Fault Refusal := portRead readZero s

/-- RD_UNUSED_xE: flush, then 0x00; the voice number selects nothing (45_register_port.md R275). -/
def execRdUnusedXE (_v : VoiceId) (s : State) : Host.Outcome State Fault Refusal := portRead readZero s

/-- RD_FIR (45_register_port.md R276). -/
def execRdFir (v : VoiceId) (s : State) : Host.Outcome State Fault Refusal := portRead (readFir v) s

end Sys2Proof.Machine
end

