-- ==== Sys2Proof/Machine/VoiceWrites.lean ====
section
/-! DEFINITION. The writes of the per-voice registers and of the FIR coefficients (45_register_port.md R260, R265 to R276). -/

namespace Sys2Proof.Machine

/-- WR_VOLL: flush, then the store (45_register_port.md R260, R265). -/
def execWrVoll (v : VoiceId) (d : Byte) (s : State) : Host.Outcome State Fault Refusal := portWrite (writeVoll v d) s

/-- WR_VOLR: flush, then the store (45_register_port.md R260, R266). -/
def execWrVolr (v : VoiceId) (d : Byte) (s : State) : Host.Outcome State Fault Refusal := portWrite (writeVolr v d) s

/-- WR_PITCHL: flush, then the store (45_register_port.md R260, R267). -/
def execWrPitchl (v : VoiceId) (d : Byte) (s : State) : Host.Outcome State Fault Refusal := portWrite (writePitchl v d) s

/-- WR_PITCHH: flush, then the store (45_register_port.md R260, R268). -/
def execWrPitchh (v : VoiceId) (d : Byte) (s : State) : Host.Outcome State Fault Refusal := portWrite (writePitchh v d) s

/-- WR_SRCN: flush, then the store (45_register_port.md R260, R269). -/
def execWrSrcn (v : VoiceId) (d : Byte) (s : State) : Host.Outcome State Fault Refusal := portWrite (writeSrcn v d) s

/-- WR_ADSR1: flush, then the store (45_register_port.md R260, R270). -/
def execWrAdsr1 (v : VoiceId) (d : Byte) (s : State) : Host.Outcome State Fault Refusal := portWrite (writeAdsr1 v d) s

/-- WR_ADSR2: flush, then the store (45_register_port.md R260, R271). -/
def execWrAdsr2 (v : VoiceId) (d : Byte) (s : State) : Host.Outcome State Fault Refusal := portWrite (writeAdsr2 v d) s

/-- WR_GAIN: flush, then the store (45_register_port.md R260, R272). -/
def execWrGain (v : VoiceId) (d : Byte) (s : State) : Host.Outcome State Fault Refusal := portWrite (writeGain v d) s

/-- WR_ENVX: flush, and the write is ignored (45_register_port.md R260, R273). -/
def execWrEnvx (_v : VoiceId) (_d : Byte) (s : State) : Host.Outcome State Fault Refusal := portWrite ignoreWrite s

/-- WR_OUTX: flush, and the write is ignored (45_register_port.md R260, R274). -/
def execWrOutx (_v : VoiceId) (_d : Byte) (s : State) : Host.Outcome State Fault Refusal := portWrite ignoreWrite s

/-- WR_UNUSED_xA: flush, and the write is ignored (45_register_port.md R275). -/
def execWrUnusedXA (_v : VoiceId) (_d : Byte) (s : State) : Host.Outcome State Fault Refusal := portWrite ignoreWrite s

/-- WR_UNUSED_xB: flush, and the write is ignored (45_register_port.md R275). -/
def execWrUnusedXB (_v : VoiceId) (_d : Byte) (s : State) : Host.Outcome State Fault Refusal := portWrite ignoreWrite s

/-- WR_UNUSED_xE: flush, and the write is ignored (45_register_port.md R275). -/
def execWrUnusedXE (_v : VoiceId) (_d : Byte) (s : State) : Host.Outcome State Fault Refusal := portWrite ignoreWrite s

/-- WR_FIR (45_register_port.md R276). -/
def execWrFir (v : VoiceId) (d : Byte) (s : State) : Host.Outcome State Fault Refusal := portWrite (writeFir v d) s

end Sys2Proof.Machine
end

