-- ==== Sys2Proof/Machine/Dispatch.lean ====
section
/-! DEFINITION. One arm per port operation (spec/opcode_table.json). -/

namespace Sys2Proof.Machine

def exec (i : Instr) (s : State) : Host.Outcome State Fault Refusal :=
  match i with
  | .rdVoll v => Sys2Proof.Machine.execRdVoll v s
  | .rdVolr v => Sys2Proof.Machine.execRdVolr v s
  | .rdPitchl v => Sys2Proof.Machine.execRdPitchl v s
  | .rdPitchh v => Sys2Proof.Machine.execRdPitchh v s
  | .rdSrcn v => Sys2Proof.Machine.execRdSrcn v s
  | .rdAdsr1 v => Sys2Proof.Machine.execRdAdsr1 v s
  | .rdAdsr2 v => Sys2Proof.Machine.execRdAdsr2 v s
  | .rdGain v => Sys2Proof.Machine.execRdGain v s
  | .rdEnvx v => Sys2Proof.Machine.execRdEnvx v s
  | .rdOutx v => Sys2Proof.Machine.execRdOutx v s
  | .rdUnusedXA v => Sys2Proof.Machine.execRdUnusedXA v s
  | .rdUnusedXB v => Sys2Proof.Machine.execRdUnusedXB v s
  | .rdUnusedXE v => Sys2Proof.Machine.execRdUnusedXE v s
  | .rdFir v => Sys2Proof.Machine.execRdFir v s
  | .rdMvoll => Sys2Proof.Machine.execRdMvoll s
  | .rdMvolr => Sys2Proof.Machine.execRdMvolr s
  | .rdEvoll => Sys2Proof.Machine.execRdEvoll s
  | .rdEvolr => Sys2Proof.Machine.execRdEvolr s
  | .rdKon => Sys2Proof.Machine.execRdKon s
  | .rdKoff => Sys2Proof.Machine.execRdKoff s
  | .rdFlg => Sys2Proof.Machine.execRdFlg s
  | .rdEndx => Sys2Proof.Machine.execRdEndx s
  | .rdEfb => Sys2Proof.Machine.execRdEfb s
  | .rdUnused1D => Sys2Proof.Machine.execRdUnused1D s
  | .rdPmon => Sys2Proof.Machine.execRdPmon s
  | .rdNon => Sys2Proof.Machine.execRdNon s
  | .rdEon => Sys2Proof.Machine.execRdEon s
  | .rdDir => Sys2Proof.Machine.execRdDir s
  | .rdEsa => Sys2Proof.Machine.execRdEsa s
  | .rdEdl => Sys2Proof.Machine.execRdEdl s
  | .rdHigh a => Sys2Proof.Machine.execRdHigh a s
  | .wrVoll v d => Sys2Proof.Machine.execWrVoll v d s
  | .wrVolr v d => Sys2Proof.Machine.execWrVolr v d s
  | .wrPitchl v d => Sys2Proof.Machine.execWrPitchl v d s
  | .wrPitchh v d => Sys2Proof.Machine.execWrPitchh v d s
  | .wrSrcn v d => Sys2Proof.Machine.execWrSrcn v d s
  | .wrAdsr1 v d => Sys2Proof.Machine.execWrAdsr1 v d s
  | .wrAdsr2 v d => Sys2Proof.Machine.execWrAdsr2 v d s
  | .wrGain v d => Sys2Proof.Machine.execWrGain v d s
  | .wrEnvx v d => Sys2Proof.Machine.execWrEnvx v d s
  | .wrOutx v d => Sys2Proof.Machine.execWrOutx v d s
  | .wrUnusedXA v d => Sys2Proof.Machine.execWrUnusedXA v d s
  | .wrUnusedXB v d => Sys2Proof.Machine.execWrUnusedXB v d s
  | .wrUnusedXE v d => Sys2Proof.Machine.execWrUnusedXE v d s
  | .wrFir v d => Sys2Proof.Machine.execWrFir v d s
  | .wrMvoll d => Sys2Proof.Machine.execWrMvoll d s
  | .wrMvolr d => Sys2Proof.Machine.execWrMvolr d s
  | .wrEvoll d => Sys2Proof.Machine.execWrEvoll d s
  | .wrEvolr d => Sys2Proof.Machine.execWrEvolr d s
  | .wrKon d => Sys2Proof.Machine.execWrKon d s
  | .wrKoff d => Sys2Proof.Machine.execWrKoff d s
  | .wrFlg d => Sys2Proof.Machine.execWrFlg d s
  | .wrEndx d => Sys2Proof.Machine.execWrEndx d s
  | .wrEfb d => Sys2Proof.Machine.execWrEfb d s
  | .wrUnused1D d => Sys2Proof.Machine.execWrUnused1D d s
  | .wrPmon d => Sys2Proof.Machine.execWrPmon d s
  | .wrNon d => Sys2Proof.Machine.execWrNon d s
  | .wrEon d => Sys2Proof.Machine.execWrEon d s
  | .wrDir d => Sys2Proof.Machine.execWrDir d s
  | .wrEsa d => Sys2Proof.Machine.execWrEsa d s
  | .wrEdl d => Sys2Proof.Machine.execWrEdl d s
  | .wrHigh a d => Sys2Proof.Machine.execWrHigh a d s
  | .cyc n => Sys2Proof.Machine.execCyc n s
  | .flush => Sys2Proof.Machine.execFlush s
  | .load data => Sys2Proof.Machine.execLoad data s
  | .pull n => Sys2Proof.Machine.execPull n s
  | .vctl v solo mute => Sys2Proof.Machine.execVctl v solo mute s
  | .reset => Sys2Proof.Machine.execReset s
  | .reserved => Sys2Proof.Machine.execReserved s

end Sys2Proof.Machine
end

