-- ==== Sys2Proof/Machine/Step.lean ====
section
/-! DEFINITION. One step: the next host input, to its end (20_memory.md R80, 46_host_port.md R359; logs 1, 2, 19). -/

namespace Sys2Proof.Machine

/-- One step of the machine. -/
def step (s : State) : Host.Outcome State Fault Refusal :=
  match s.takeInput with
  | none => .next s.idle
  | some (.op p, t) => exec (decode p) t
  | some (.mem a bytes, t) => .next (t.hostWrite a bytes)

/-- The instruction of a table word, as the host's next input: a program is what the host issues (log 1). -/
def State.withFetchWord (s : State) (nbits w : Nat) : State :=
  { s with pending := .op (tablePortWord nbits w) :: s.pending }

end Sys2Proof.Machine
end

