-- ==== Sys2Proof/Safety.lean ====
section
/-! DEFINITION. What counts as a good state, in the terms the claims use: the ranges 10_state.md gives each field, and
the condition under which an operation that flushes completes. -/

namespace Sys2Proof.Machine

/-- A signed 16-bit value (00_scope.md R9). -/
def InSample (x : Sample) : Prop := -32768 ≤ x ∧ x ≤ 32767

/-- The ranges of a voice's fields (10_state.md R25 to R28; 41_envelope.md R162, R166; 42_voice.md R196). Between two
operations the decoder index is below 16, because a finished block is replaced at once (42_voice.md R191). -/
structure VoiceOk (v : Voice) : Prop where
  level : v.envLevel ≤ 2047
  hidden : -32 ≤ v.envHidden ∧ v.envHidden ≤ 3071
  samples : ∀ k : Fin 16, InSample v.decSamples[k]
  index : v.decIndex < 16
  history : InSample v.decP1 ∧ InSample v.decP2
  window : InSample v.window.w0 ∧ InSample v.window.w1 ∧ InSample v.window.w2 ∧ InSample v.window.w3
  phase : v.phase < 0x1000
  outEnv : -32752 ≤ v.outEnv ∧ v.outEnv ≤ 32750 ∧ v.outEnv % 2 = 0
  lastRaw : InSample v.lastRaw

/-- A signed 15-bit value, as the FIR histories hold (10_state.md R33). -/
def InHistory (x : Sample) : Prop := -16384 ≤ x ∧ x ≤ 16383

/-- The invariant between two host operations: every field within its range (10_state.md R25 to R37), the noise word
never 0 (44_dsp_tick.md R228), the echo cursor inside the latched length (R239), no flush in progress (10_state.md R35),
a fault only with a full ring and the faulting tick's cycles still pending (60_exceptions.md R371), and the memory in
its canonical form. -/
structure Inv (s : State) : Prop where
  voices : ∀ v : VoiceId, VoiceOk s.voices[v]
  noise : s.noise ≠ 0
  counter : s.counter < 30720
  echoPos : s.echoPos % 4 = 0 ∧ (s.echoPos = 0 ∨ s.echoPos < s.echoLen)
  echoLen : s.echoLen % 0x800 = 0 ∧ s.echoLen ≤ 0x7800
  histL : ∀ k : VoiceId, InHistory s.histL[k]
  histR : ∀ k : VoiceId, InHistory s.histR[k]
  capacity : 1 ≤ s.params.ringCapacity
  ring : s.ring.length ≤ s.params.ringCapacity
  frames : ∀ f ∈ s.ring, InSample f.left ∧ InSample f.right
  notFlushing : s.flushing = false
  fault : s.fault ≠ none → s.ring.length = s.params.ringCapacity ∧ 64 ≤ s.accCycles
  memory : Memory.wf s.mem = true

/-- A port operation that flushes completes: the core is not faulted, and the frames the flush makes fit the ring
(46_host_port.md R353, 70_reset_and_hazards.md R407). A flush already in progress is not run again (45_register_port.md
R263). -/
def Ready (s : State) : Prop :=
  s.fault = none ∧ (s.flushing = false → s.ring.length + s.accCycles / 64 ≤ s.params.ringCapacity)

/-- The four bytes of the echo frame at `f`, addresses modulo 2^16 (30_encoding.md R105). -/
def frameBytes (f : Addr) : List Addr := [f, f + 1, f + 2, f + 3]

/-- What no tick writes in a voice: its register bytes, the edge flag, the key-on tick and the host controls. -/
structure VoiceKept (v u : Voice) : Prop where
  regs : u.regs = v.regs
  edge : u.edge = v.edge
  konTick : u.konTick = v.konTick
  mute : u.mute = v.mute
  solo : u.solo = v.solo

/-- What no tick writes: the register bytes and key caches, the refusal mark, the parameters, the pending inputs, the last
answer, and in every voice what `VoiceKept` says. -/
structure Kept (s t : State) : Prop where
  regs : t.regs = s.regs
  refused : t.refused = s.refused
  params : t.params = s.params
  pending : t.pending = s.pending
  response : t.response = s.response
  voices : ∀ v : VoiceId, VoiceKept s.voices[v] t.voices[v]

/-! The words of the claims about single operations. -/

/-- The operations that flush before they do anything else: the accesses to 0x00..0x7F, LOAD and VCTL (45_register_port.md
R263; 46_host_port.md R352, R356). -/
def flushesFirst : Instr → Bool
  | .rdVoll _ | .rdVolr _ | .rdPitchl _ | .rdPitchh _ | .rdSrcn _ | .rdAdsr1 _ | .rdAdsr2 _ | .rdGain _
  | .rdEnvx _ | .rdOutx _ | .rdUnusedXA _ | .rdUnusedXB _ | .rdUnusedXE _ | .rdFir _ | .rdMvoll | .rdMvolr
  | .rdEvoll | .rdEvolr | .rdKon | .rdKoff | .rdFlg | .rdEndx | .rdEfb | .rdUnused1D | .rdPmon | .rdNon
  | .rdEon | .rdDir | .rdEsa | .rdEdl | .wrVoll _ _ | .wrVolr _ _ | .wrPitchl _ _ | .wrPitchh _ _ | .wrSrcn _ _
  | .wrAdsr1 _ _ | .wrAdsr2 _ _ | .wrGain _ _ | .wrEnvx _ _ | .wrOutx _ _ | .wrUnusedXA _ _ | .wrUnusedXB _ _
  | .wrUnusedXE _ _ | .wrFir _ _ | .wrMvoll _ | .wrMvolr _ | .wrEvoll _ | .wrEvolr _ | .wrKon _ | .wrKoff _
  | .wrFlg _ | .wrEndx _ | .wrEfb _ | .wrUnused1D _ | .wrPmon _ | .wrNon _ | .wrEon _ | .wrDir _ | .wrEsa _
  | .wrEdl _ | .load _ | .vctl _ _ _ => true
  | .rdHigh _ | .wrHigh _ _ | .cyc _ | .flush | .pull _ | .reset | .reserved => false

/-- The operations that can key on voice `v`: a KON write or a LOAD with its bit set (45_register_port.md R281;
46_host_port.md R352). -/
def keysOn (v : VoiceId) : Instr → Prop
  | .wrKon d => d.getLsbD v = true
  | .load data => data[0x4C].getLsbD v = true
  | _ => False

/-- The operations that can clear voice `v`'s ENDX flag: a write to 0x7C, a LOAD, RESET, and its key-on (42_voice.md
R194; 46_host_port.md R352; 70_reset_and_hazards.md R390). -/
def clearsEndx (v : VoiceId) : Instr → Prop
  | .wrEndx _ | .load _ | .reset => True
  | .wrKon d => d.getLsbD v = true
  | _ => False

/-- `u` is `v` keyed on at tick `ticks`, field by field (42_voice.md R201): the block is the one at the directory's start
address, low byte first (20_memory.md R73), decoded with the history (0, 0), and everything R201 does not name is unchanged. -/
structure KeyedOn (m : Memory) (dir : Byte) (ticks : Nat) (v u : Voice) : Prop where
  brrAddr :
    let entry := BitVec.ofNat 16 (dir.toNat * 0x100 + v.regs.srcn.toNat * 4)
    u.brrAddr = (Memory.read m (entry + 1) ++ Memory.read m entry : BitVec 16)
  decSamples : u.decSamples = (decodeBlock m u.brrAddr { v with decP1 := 0, decP2 := 0 }).decSamples
  decP1 : u.decP1 = (decodeBlock m u.brrAddr { v with decP1 := 0, decP2 := 0 }).decP1
  decP2 : u.decP2 = (decodeBlock m u.brrAddr { v with decP1 := 0, decP2 := 0 }).decP2
  decLoop : u.decLoop = (Memory.read m u.brrAddr).getLsbD 1
  decEnd : u.decEnd = (Memory.read m u.brrAddr).getLsbD 0
  decIndex : u.decIndex = 0
  window : u.window = ⟨0, 0, 0, 0⟩
  phase : u.phase = 0
  envMode : u.envMode = .attack
  envLevel : u.envLevel = 0
  envHidden : u.envHidden = 0
  endx : u.endx = false
  konTick : u.konTick = ticks
  edge : u.edge = false
  regs : u.regs = v.regs
  outEnv : u.outEnv = v.outEnv
  lastRaw : u.lastRaw = v.lastRaw
  mute : u.mute = v.mute
  solo : u.solo = v.solo

/-- A voice's register bytes in a LOAD snapshot (46_host_port.md R352; 30_encoding.md R91). -/
def loadedVoiceRegs (data : Vector Byte 128) (v : VoiceId) : VoiceRegs where
  volL := data.toList.getD (0x10 * v.val + 0x0) 0
  volR := data.toList.getD (0x10 * v.val + 0x1) 0
  pitchL := data.toList.getD (0x10 * v.val + 0x2) 0
  pitchH := data.toList.getD (0x10 * v.val + 0x3) 0
  srcn := data.toList.getD (0x10 * v.val + 0x4) 0
  adsr1 := data.toList.getD (0x10 * v.val + 0x5) 0
  adsr2 := data.toList.getD (0x10 * v.val + 0x6) 0
  gain := data.toList.getD (0x10 * v.val + 0x7) 0

/-- The global register bytes after a LOAD: the snapshot's, but for the KOFF cache, which LOAD does not write
(46_host_port.md R352; 30_encoding.md R91, R92). -/
def loadedRegs (data : Vector Byte 128) (koffCache : Byte) : Regs where
  fir := #v[data[0x0F], data[0x1F], data[0x2F], data[0x3F], data[0x4F], data[0x5F], data[0x6F], data[0x7F]]
  mvolL := data[0x0C]
  mvolR := data[0x1C]
  evolL := data[0x2C]
  evolR := data[0x3C]
  flg := data[0x6C]
  efb := data[0x0D]
  pmon := data[0x2D]
  non := data[0x3D]
  eon := data[0x4D]
  dir := data[0x5D]
  esa := data[0x6D]
  edl := data[0x7D]
  konCache := data[0x4C]
  koffCache := koffCache

/-- The envelope level of `u` is the clamped hidden value when rate index `rate` fires, and the level of `v` otherwise
(41_envelope.md R164, R165). -/
def CommittedAt (counter rate : Nat) (v u : Voice) : Prop :=
  (u.envLevel : Int) = if counterFires counter rate then max 0 (min u.envHidden 0x7FF) else (v.envLevel : Int)

/-- A voice with its host controls cleared. -/
def Voice.unmarked (v : Voice) : Voice := { v with mute := false, solo := false }

/-- A write of `d` to each stored register of voice (or tap) `v` and to each stored or cached global register, with the
read of the same address (45_register_port.md R264, R281, R282). -/
def storedPairs (v : VoiceId) (d : Byte) : List (Instr × Instr) :=
  [(.wrVoll v d, .rdVoll v), (.wrVolr v d, .rdVolr v), (.wrPitchl v d, .rdPitchl v), (.wrPitchh v d, .rdPitchh v),
   (.wrSrcn v d, .rdSrcn v), (.wrAdsr1 v d, .rdAdsr1 v), (.wrAdsr2 v d, .rdAdsr2 v), (.wrGain v d, .rdGain v),
   (.wrFir v d, .rdFir v), (.wrMvoll d, .rdMvoll), (.wrMvolr d, .rdMvolr), (.wrEvoll d, .rdEvoll), (.wrEvolr d, .rdEvolr),
   (.wrKon d, .rdKon), (.wrKoff d, .rdKoff), (.wrFlg d, .rdFlg), (.wrEfb d, .rdEfb), (.wrPmon d, .rdPmon),
   (.wrNon d, .rdNon), (.wrEon d, .rdEon), (.wrDir d, .rdDir), (.wrEsa d, .rdEsa), (.wrEdl d, .rdEdl)]

end Sys2Proof.Machine
end

