-- ==== Sys2Proof/Certificates/Slice0/Obligations.lean ====
section
/-! DEFINITION. The statements for the provers. The field `response` of a state is the model's record of what the last
port operation returned (log 3); where a statement says `.nothing`, the spec says the operation returns no value. -/

open Sys2Proof Sys2Proof.Machine

/-! ## Encoding -/

/-- 30_encoding.md R106, R114: decoding the word of a well-formed operation gives it back, every operand at every value, as
a word and as a byte stream (the byte order of the stream is the model's choice, log 12). -/
def Obligations.DecodeOfEncodeIsIdentity : Prop :=
  ∀ i : Instr, i.wellFormed = true →
    decode (encode i) = i ∧ ∀ rest : List Byte, decodeBytes (encodeBytes i ++ rest) = .ok (i, rest)

/-- 30_encoding.md R107: every word is an instance of exactly one row of the opcode table, that of the operation it
decodes to, and what it decodes to is well formed. -/
def Obligations.EveryWordHasExactlyOneTableRow : Prop :=
  ∀ p : PortWord, (decode p).wellFormed = true ∧ (decode p).row < opcodeTable.length ∧
    ∀ k, k < opcodeTable.length → ((opcodeTable.getD k ⟨0, 0⟩).matches p.word = true ↔ k = (decode p).row)

/-- 30_encoding.md R106, R114: words written out from the spec's tables, some with ignored bits set, decode to the
operations they stand for. -/
def Obligations.SpecWordsDecode : Prop :=
  decode (bareWord 0x00007800) = .rdEnvx 7 ∧
  decode (bareWord 0x0FFF5CFF) = .rdKoff ∧
  decode (bareWord 0x0000FC00) = .rdHigh 0xFC ∧
  decode (bareWord 0x1000238F) = .wrPitchh 2 0x8F ∧
  decode (bareWord 0x10004C81) = .wrKon 0x81 ∧
  decode (bareWord 0x10001DAA) = .wrUnused1D 0xAA ∧
  decode (bareWord 0x20000040) = .cyc 64 ∧
  decode (bareWord 0x30000001) = .flush ∧
  decode (bareWord 0x5FFFFFFF) = .pull 0xFFFFFFF ∧
  decode (bareWord 0x60000702) = .vctl 7 true false ∧
  decode (bareWord 0x70000000) = .reset ∧
  decode (bareWord 0xC0000000) = .reserved ∧
  ∀ data : Vector Byte 128, decode ⟨0x40000000, data⟩ = .load data

/-! ## The step -/

/-- 20_memory.md R71, R80, R81, 46_host_port.md R358, R359: a step is the next host input, run to its end: a port operation
is what its word decodes to, a host memory write changes memory only, and with no input nothing happens (the queue of
inputs is the model's, logs 1, 2 and 19). After a host memory write byte `k` of the bytes reads back at `a + k` modulo
2^16, unless a later one of them fell on the same address, and every address none of them fell on reads as before. -/
def Obligations.StepRunsTheDecodedOperation : Prop :=
  (∀ s : State,
    (∀ p rest, s.pending = .op p :: rest → step s = exec (decode p) { s with pending := rest }) ∧
    (∀ a bytes rest, s.pending = .mem a bytes :: rest →
      step s = .next { s with pending := rest, mem := Memory.writeAll s.mem a bytes }) ∧
    (s.pending = [] → step s = .next s)) ∧
  ∀ (m : Memory) (a : Addr) (bytes : List Byte), Memory.wf m = true →
    (∀ k (hk : k < bytes.length), (∀ j, k < j → j < bytes.length → a + BitVec.ofNat 16 j ≠ a + BitVec.ofNat 16 k) →
      Memory.read (Memory.writeAll m a bytes) (a + BitVec.ofNat 16 k) = bytes[k]) ∧
    ∀ c, (∀ k, k < bytes.length → c ≠ a + BitVec.ofNat 16 k) → Memory.read (Memory.writeAll m a bytes) c = Memory.read m c

/-- The model's choice (logs 1, 2, 4, 24): every step ends in a next state, also one that overflows the ring (60_exceptions.md
R371 says a model stops there), meets a reserved word or has no input, and takes exactly one input of the queue, if there
is one. 10_state.md R38: no step changes the parameters of the run. -/
def Obligations.EveryStepCompletesAndKeepsParameters : Prop :=
  ∀ s : State, ∃ t, step s = .next t ∧ t.params = s.params ∧ t.pending = s.pending.tail

/-! ## Invariants -/

/-- 00_scope.md R9 ("no rule stores a value outside its element's range"): `Inv`, the ranges 10_state.md gives every field,
is kept by every step from every state that meets it. That no flush is in progress after a faulted one is log 6. -/
def Obligations.StepKeepsInvariant : Prop := ∀ s t : State, Inv s → step s = .next t → Inv t

/-- 70_reset_and_hazards.md R391: the power-on state meets `Inv`. -/
def Obligations.InvariantHoldsAtReset : Prop := Inv State.reset

/-! ## Memory -/

/-- 20_memory.md R75, 44_dsp_tick.md R238: an operation reaches memory only through its flush, each tick of a flush writes
only the four bytes of the echo frame the tick started at, and no operation that starts with FLG bit 5 set writes any. -/
def Obligations.OperationsWriteOnlyEchoFrames : Prop :=
  (∀ (i : Instr) (s t : State), exec i s = .next t →
    (t.mem = s.mem ∨ t.mem = (flush s).mem) ∧ (s.regs.flg.getLsbD 5 = true → t.mem = s.mem)) ∧
  ∀ (s : State) (a : Addr), Memory.wf s.mem = true →
    (∀ k, k < s.accCycles / 64 → a ∉ frameBytes (echoFrameAddr (runTicks k (s.setFlushing true)))) →
    Memory.read (flush s).mem a = Memory.read s.mem a

/-! ## The tick -/

/-- 44_dsp_tick.md R237: while the ring has room a tick completes: one frame of two signed 16-bit samples goes to the back
of the ring, and nothing `Kept` names, nor the pending cycles, changes. -/
def Obligations.TickWithRoomAppendsOneFrame : Prop :=
  ∀ s : State, s.fault = none → s.ring.length < s.params.ringCapacity →
    (tick s).fault = none ∧ Kept s (tick s) ∧ (tick s).accCycles = s.accCycles ∧ (tick s).flushing = s.flushing ∧
    ∃ f, InSample f.left ∧ InSample f.right ∧ (tick s).ring = s.ring ++ [f]

/-- 60_exceptions.md R371, 44_dsp_tick.md R237: a tick that finds the ring full raises RingOverflow at its push. It ends in
the state the same tick would reach with room for one more frame, except that nothing is appended and steps 6 to 9 did
not run. That a ring with more frames than its capacity, which no run reaches, counts as full is the model's choice (log
22), and so is that the receiver is a field of the state, which the faulting tick leaves alone (log 14). -/
def Obligations.TickAtFullRingFaultsAtItsPush : Prop :=
  ∀ s : State, s.params.ringCapacity ≤ s.ring.length →
    let roomy := { s with params := { s.params with ringCapacity := s.ring.length + 1 } }
    tick s = { tick roomy with
      fault := some .ringOverflow, ring := s.ring, mem := s.mem, echoPos := s.echoPos, echoLen := s.echoLen,
      counter := s.counter, ticksTotal := s.ticksTotal, receiver := s.receiver, params := s.params }

/-- 44_dsp_tick.md R229, R230, R233: the voices render in index order from the state after steps 0 and 1 (R241, R228), each
with the hand-off of the one before it (0 for voice 0) and with whether any voice is soloed, and the four sums saturate at
every addition, the echo sums over the voices with EON set. -/
def Obligations.VoicesRenderInOrderWithHandOff : Prop :=
  ∀ s : State,
    let σ := { s with
      noise := if counterFires s.counter (s.regs.flg.toNat % 32) then noiseNext s.noise else s.noise
      voices := Vector.ofFn fun v : VoiceId =>
        if s.params.flgSiliconEffects = true ∧ s.regs.flg.getLsbD 7 = true then
          { s.voices[v] with envMode := .release, envLevel := 0 }
        else s.voices[v] }
    let anysolo := decide (∃ v : VoiceId, s.voices[v].solo = true)
    ∃ h : Nat → Sample, h 0 = 0 ∧
      (∀ i : VoiceId, h (i.val + 1) = (renderVoice σ i (h i) anysolo).hOut ∧
        (tick s).voices[i] = (renderVoice σ i (h i) anysolo).voice) ∧
      (tickRender s).2.ml = voiceIds.foldl (fun m i => clamp16 (m + (renderVoice σ i (h i) anysolo).l)) 0 ∧
      (tickRender s).2.mr = voiceIds.foldl (fun m i => clamp16 (m + (renderVoice σ i (h i) anysolo).r)) 0 ∧
      (tickRender s).2.el = voiceIds.foldl
        (fun m (i : VoiceId) => if σ.regs.eon.getLsbD i then clamp16 (m + (renderVoice σ i (h i) anysolo).l) else m) 0 ∧
      (tickRender s).2.er = voiceIds.foldl
        (fun m (i : VoiceId) => if σ.regs.eon.getLsbD i then clamp16 (m + (renderVoice σ i (h i) anysolo).r) else m) 0

/-- 44_dsp_tick.md R230, R231: the four sums of a tick are signed 16-bit values, and eight voices at the largest
contributions saturate. 00_scope.md R11: what saturating and wrapping to 16 bits do to any integer. -/
def Obligations.MixSumsSaturate : Prop :=
  (∀ s : State, InSample (tickRender s).2.ml ∧ InSample (tickRender s).2.mr ∧
    InSample (tickRender s).2.el ∧ InSample (tickRender s).2.er) ∧
  (∀ echo : Bool,
    ((List.replicate 8 (32752 : Int)).foldl (fun m x => m.add echo x (-x) 0) Mix.start).ml = 32767 ∧
    ((List.replicate 8 (32752 : Int)).foldl (fun m x => m.add echo x (-x) 0) Mix.start).mr = -32768) ∧
  ∀ v : Int,
    (InSample v → clamp16 v = v) ∧ (32767 < v → clamp16 v = 32767) ∧ (v < -32768 → clamp16 v = -32768) ∧
    InSample (wrap16 v) ∧ (wrap16 v - v) % 0x10000 = 0

/-- 44_dsp_tick.md R235 with 43_echo_filter.md R211: every tick, faulting or not, reads the echo frame and shifts the two
samples, halved, into the histories. -/
def Obligations.EveryTickReadsItsEchoFrame : Prop :=
  ∀ s : State, let f := BitVec.ofNat 16 (s.regs.esa.toNat * 0x100 + s.echoPos)
    (tick s).histL[7] = (Memory.read s.mem (f + 1) ++ Memory.read s.mem f : BitVec 16).toInt >>> 1 ∧
    (tick s).histR[7] = (Memory.read s.mem (f + 3) ++ Memory.read s.mem (f + 2) : BitVec 16).toInt >>> 1 ∧
    ∀ k : Fin 7, (tick s).histL[k.val] = s.histL[k.val + 1] ∧ (tick s).histR[k.val] = s.histR[k.val + 1]

/-- 43_echo_filter.md R213: the dot product of a history, its two wraps, its saturation and its cleared bit 0. -/
def Obligations.FirOutputIsEvenAndSaturates : Prop :=
  ∀ (fir : Vector Byte 8) (hist : Vector Sample 8),
    let term (k : Fin 8) : Int := (hist[k] * fir[k].toInt) >>> 6
    let sum : Int := wrap16 (((List.finRange 7).map fun k => term k.castSucc).sum) + wrap16 (term 7)
    firDot fir hist = clamp16 sum - clamp16 sum % 2 ∧ firDot fir hist % 2 = 0 ∧ InSample (firDot fir hist)

/-- 44_dsp_tick.md R236: the frame a tick appends, from the mix and the filter outputs, which are the dot products of the
histories the tick leaves (R235, 43_echo_filter.md R213). -/
def Obligations.OutputFrameScalesMixAndEcho : Prop :=
  ∀ s : State, s.ring.length < s.params.ringCapacity →
    let m := (tickRender s).2
    let fl := firDot s.regs.fir (tick s).histL
    let fr := firDot s.regs.fir (tick s).histR
    let left := clamp16 (wrap16 ((m.ml * s.regs.mvolL.toInt) >>> 7) + wrap16 ((fl * s.regs.evolL.toInt) >>> 7))
    let right := clamp16 (wrap16 ((m.mr * s.regs.mvolR.toInt) >>> 7) + wrap16 ((fr * s.regs.evolR.toInt) >>> 7))
    (tick s).ring = s.ring ++
      [if s.params.flgSiliconEffects = true ∧ s.regs.flg.getLsbD 6 = true then ⟨0, 0⟩ else ⟨left, right⟩]

/-- 44_dsp_tick.md R238: a completed tick with FLG bit 5 clear writes the two echo samples, from the echo sums and the filter
outputs (R235), over the frame it read, low byte first, and no other byte; with FLG bit 5 set it writes nothing. -/
def Obligations.EchoWriteStoresSendPlusFeedback : Prop :=
  ∀ s : State, s.ring.length < s.params.ringCapacity → Memory.wf s.mem = true →
    let m := (tickRender s).2
    let fl := firDot s.regs.fir (tick s).histL
    let fr := firDot s.regs.fir (tick s).histR
    let sum (send fir : Sample) : Sample := clamp16 (send + wrap16 ((fir * s.regs.efb.toInt) >>> 7))
    let left := sum m.el fl - sum m.el fl % 2
    let right := sum m.er fr - sum m.er fr % 2
    let f := BitVec.ofNat 16 (s.regs.esa.toNat * 0x100 + s.echoPos)
    (s.regs.flg.getLsbD 5 = false →
      Memory.read (tick s).mem f = BitVec.ofInt 8 left ∧
      Memory.read (tick s).mem (f + 1) = BitVec.ofInt 8 (left >>> 8) ∧
      Memory.read (tick s).mem (f + 2) = BitVec.ofInt 8 right ∧
      Memory.read (tick s).mem (f + 3) = BitVec.ofInt 8 (right >>> 8) ∧
      ∀ a, a ∉ frameBytes f → Memory.read (tick s).mem a = Memory.read s.mem a) ∧
    (s.regs.flg.getLsbD 5 = true → (tick s).mem = s.mem)

/-- 44_dsp_tick.md R239: the echo cursor of a completed tick, and the length latched only at cursor 0. -/
def Obligations.EchoCursorLatchesLengthAtZero : Prop :=
  ∀ s : State, s.ring.length < s.params.ringCapacity →
    (tick s).echoLen = (if s.echoPos = 0 then s.regs.edl.toNat % 16 * 0x800 else s.echoLen) ∧
    (tick s).echoPos = (if (tick s).echoLen ≤ s.echoPos + 4 then 0 else s.echoPos + 4)

/-- 44_dsp_tick.md R240: the rate counter of a completed tick. -/
def Obligations.RateCounterCountsDown : Prop :=
  ∀ s : State, s.ring.length < s.params.ringCapacity →
    ((tick s).counter : Int) = ((s.counter : Int) - 1) % 30720 ∧ (tick s).ticksTotal = s.ticksTotal + 1

/-- 44_dsp_tick.md R226, R227: the two tables; the firing test; with the counter counting down from 0, rate `r` fires on the ticks congruent
to its offset modulo its period, which divides the counter's range; rate 0 never fires and rate 31 always does. -/
def Obligations.RatesFireAtTheirPeriods : Prop :=
  rateTable =
    [30721, 2048, 1536, 1280, 1024, 768, 640, 512, 384, 320, 256, 192, 160, 128, 96, 80,
     64, 48, 40, 32, 24, 20, 16, 12, 10, 8, 6, 5, 4, 3, 2, 1] ∧
  offsetTable =
    [1, 0, 1040, 536, 0, 1040, 536, 0, 1040, 536, 0, 1040, 536, 0, 1040, 536,
     0, 1040, 536, 0, 1040, 536, 0, 1040, 536, 0, 1040, 536, 0, 1040, 0, 0] ∧
  (∀ c r : Nat, r < 32 → (counterFires c r = true ↔ (c + offsetTable.getD r 0) % rateTable.getD r 0 = 0)) ∧
  (∀ r t : Nat, 1 ≤ r → r < 32 →
    rateTable.getD r 0 ∣ 30720 ∧
    (counterFires ((30720 - t % 30720) % 30720) r = true ↔
      t % rateTable.getD r 0 = offsetTable.getD r 0 % rateTable.getD r 0)) ∧
  ∀ c : Nat, c < 30720 → counterFires c 0 = false ∧ counterFires c 31 = true

/-- 44_dsp_tick.md R228: the noise step, bit by bit, and its gating by FLG[4:0]; a non-zero word never becomes 0. -/
def Obligations.NoiseStepShiftsAndFeedsBack : Prop :=
  (∀ n : BitVec 15, (noiseNext n).getLsbD 14 = (n.getLsbD 0 ^^ n.getLsbD 1) ∧
    (∀ k, k < 14 → (noiseNext n).getLsbD k = n.getLsbD (k + 1)) ∧ (n ≠ 0 → noiseNext n ≠ 0)) ∧
  ∀ s : State, (tick s).noise =
    if counterFires s.counter (s.regs.flg.toNat % 32) then noiseNext s.noise else s.noise

/-- 44_dsp_tick.md R241: FLG bits 7 and 6 have no effect with `FLG_SILICON_EFFECTS` off; with it on, bit 7 holds every voice
in Release at level 0, and bit 6 makes the frame (0, 0). -/
def Obligations.FlgTopBitsActOnlyWithSiliconEffects : Prop :=
  (∀ (s : State) (flg : Byte), s.params.flgSiliconEffects = false → flg.extractLsb' 0 6 = s.regs.flg.extractLsb' 0 6 →
    tick { s with regs := { s.regs with flg := flg } } = { tick s with regs := { s.regs with flg := flg } }) ∧
  ∀ s : State, s.params.flgSiliconEffects = true →
    (s.regs.flg.getLsbD 7 = true → ∀ v : VoiceId,
      (tick s).voices[v].envMode = .release ∧ (tick s).voices[v].envLevel = 0) ∧
    (s.regs.flg.getLsbD 6 = true → s.ring.length < s.params.ringCapacity → (tick s).ring = s.ring ++ [⟨0, 0⟩])

/-- 44_dsp_tick.md R242: the state receiver only receives: whatever is attached, every operation does the same to
everything else, and with none attached nothing is delivered; a completed tick delivers one tuple for each voice. -/
def Obligations.VisualizationOnlyReads : Prop :=
  (∀ (i : Instr) (s t : State) (r : Option (List (List VoiceEmission))), exec i s = .next t →
    ∃ r', exec i { s with receiver := r } = .next { t with receiver := r' } ∧ (r = none → r' = none)) ∧
  ∀ (s : State) (got : List (List VoiceEmission)), s.ring.length < s.params.ringCapacity → s.receiver = some got →
    ∃ tuples : Vector VoiceEmission 8, (tick s).receiver = some (got ++ [tuples.toList]) ∧
      ∀ v : VoiceId, tuples[v] =
        { srcn := s.voices[v].regs.srcn, lastRaw := (tick s).voices[v].lastRaw, envLevel := (tick s).voices[v].envLevel,
          volL := s.voices[v].regs.volL, volR := s.voices[v].regs.volR, edge := s.voices[v].edge,
          konTick := s.voices[v].konTick }

/-- 42_voice.md R205, 44_dsp_tick.md R229: the state a voice ends a tick in does not depend on the voices after it. (What it
adds to the sums does: R205 has every voice read the solo flags of all voices.) -/
def Obligations.LaterVoicesDoNotReachEarlierOnes : Prop :=
  ∀ (s : State) (i j : VoiceId) (x : Voice), i < j → (tick (s.setVoice j x)).voices[i] = (tick s).voices[i]

/-- 42_voice.md R199, 60_exceptions.md R384: mute and solo act only through the mixes: whatever the controls are, a tick
leaves the same state but for the controls themselves, which it keeps, the samples of the frame it appends, and the bytes
of the echo frame it writes. -/
def Obligations.MuteAndSoloChangeOnlyTheMixes : Prop :=
  ∀ (s : State) (w : Vector Voice 8), (∀ v : VoiceId, w[v].unmarked = s.voices[v].unmarked) →
    let t := tick s
    let u := tick { s with voices := w }
    u = { t with voices := u.voices, ring := u.ring, mem := u.mem } ∧
    (∀ v : VoiceId, u.voices[v].unmarked = t.voices[v].unmarked ∧ u.voices[v].mute = w[v].mute ∧
      u.voices[v].solo = w[v].solo) ∧
    u.ring.length = t.ring.length ∧ u.ring.take s.ring.length = s.ring ∧ t.ring.take s.ring.length = s.ring ∧
    (s.regs.flg.getLsbD 5 = true → u.mem = t.mem) ∧
    ∀ a, a ∉ frameBytes (BitVec.ofNat 16 (s.regs.esa.toNat * 0x100 + s.echoPos)) → Memory.read u.mem a = Memory.read t.mem a

/-- 70_reset_and_hazards.md R393: `n` ticks straight after reset, whatever memory holds: silent frames, memory and the
noise word as they were, every voice as reset left it, and the echo frame at addresses 0 to 3 read. -/
def Obligations.TicksAfterResetAreSilent : Prop :=
  ∀ (m : Memory) (n cap : Nat), n ≤ cap →
    ∃ t, exec .flush { State.reset with
        mem := m, accCycles := 64 * n, params := { Config.params with ringCapacity := cap } } = .next t ∧
      t.fault = none ∧ t.ring = List.replicate n ⟨0, 0⟩ ∧ t.mem = m ∧ t.noise = 0x4000 ∧ t.echoPos = 0 ∧ t.echoLen = 0 ∧
      t.voices = State.reset.voices ∧
      (0 < n →
        t.histL[7] = (Memory.read m 1 ++ Memory.read m 0 : BitVec 16).toInt >>> 1 ∧
        t.histR[7] = (Memory.read m 3 ++ Memory.read m 2 : BitVec 16).toInt >>> 1)

/-! ## Voices -/

/-- 42_voice.md R182 to R184: base pitch, modulation by the hand-off for voices 1 to 7 with their PMON bit set, and the
clamp to 14 bits. -/
def Obligations.PitchIsModulatedAndClamped : Prop :=
  ∀ (pmon : Byte) (i : VoiceId) (v : Voice) (h : Sample), InSample h →
    let p0 : Int := (v.regs.pitchH.toNat % 64 * 256 + v.regs.pitchL.toNat : Nat)
    effectivePitch pmon i v h ≤ 0x3FFF ∧
    (i = 0 ∨ pmon.getLsbD i = false → (effectivePitch pmon i v h : Int) = p0) ∧
    (i ≠ 0 ∧ pmon.getLsbD i = true →
      0 ≤ p0 + (((h >>> 5) * p0) >>> 10) ∧
      (effectivePitch pmon i v h : Int) = min (p0 + (((h >>> 5) * p0) >>> 10)) 0x3FFF)

/-- 42_voice.md R180, R181, R185, R195 to R200: a render leaves the voice advanced by its effective pitch and then stepped in
its envelope; what it gives comes from the pre-envelope sample and the level before both; mute and solo silence the
contributions only. -/
def Obligations.RenderScalesByEnvelopeAndVolume : Prop :=
  ∀ (s : State) (i : VoiceId) (h : Sample) (anysolo : Bool), let v := s.voices[i]
    let raw := if s.regs.non.getLsbD i then wrap16 (s.noise.toNat * 2 : Nat) else interpolate s.params v
    let envd := (raw * v.envLevel) >>> 11 - (raw * v.envLevel) >>> 11 % 2
    let out := renderVoice s i h anysolo
    out.voice = { envTick s.counter (advance s.mem s.regs.dir (effectivePitch s.regs.pmon i v h) v) with
      outEnv := envd, lastRaw := raw } ∧
    out.voice.lastRaw = raw ∧ out.voice.outEnv = envd ∧ envd % 2 = 0 ∧
    out.hOut = (if s.params.pmonSource = .preEnvelope then raw else envd) ∧
    (v.mute = false ∧ (anysolo = false ∨ v.solo = true) →
      out.l = (envd * v.regs.volL.toInt) >>> 7 ∧ out.r = (envd * v.regs.volR.toInt) >>> 7) ∧
    (v.mute = true ∨ (anysolo = true ∧ v.solo = false) → out.l = 0 ∧ out.r = 0) ∧
    (v.envLevel ≤ 2047 → InSample raw →
      (-32752 ≤ envd ∧ envd ≤ 32750) ∧ (-32752 ≤ out.l ∧ out.l ≤ 32752) ∧ (-32752 ≤ out.r ∧ out.r ≤ 32752))

/-- 42_voice.md R188: Gaussian interpolation with any table: the four shifted products, the wrap after three, the
saturation and the cleared bit; the phase's low four bits do not matter. -/
def Obligations.GaussianInterpolationIsEvenAndSaturates : Prop :=
  ∀ (p : Params) (v : Voice), p.kernel = .gaussian →
    let o := v.phase / 16 % 256
    let term (g : Nat) (w : Sample) : Int := ((gaussWeight p.gaussTable g : Int) * w) >>> 11
    let sum : Int := wrap16 (term (255 - o) v.window.w0 + term (511 - o) v.window.w1 + term (256 + o) v.window.w2) +
      term o v.window.w3
    interpolate p v = clamp16 sum - clamp16 sum % 2 ∧ interpolate p v % 2 = 0 ∧ InSample (interpolate p v) ∧
    interpolate p { v with phase := v.phase / 16 * 16 } = interpolate p v

/-- 42_voice.md R187: the default table is non-decreasing, its entries are 11-bit, and every interpolation's four weights
sum to 2047..2049. -/
def Obligations.GaussTableIsMonotoneAndNormalized : Prop :=
  (∀ i, i < 511 → gaussWeight .standard i ≤ gaussWeight .standard (i + 1)) ∧
  gaussWeight .standard 511 < 2048 ∧
  ∀ o, o < 256 →
    2047 ≤ gaussWeight .standard (255 - o) + gaussWeight .standard (511 - o) + gaussWeight .standard (256 + o) +
      gaussWeight .standard o ∧
    gaussWeight .standard (255 - o) + gaussWeight .standard (511 - o) + gaussWeight .standard (256 + o) +
      gaussWeight .standard o ≤ 2049

/-- 42_voice.md R190, its pseudocode: the phase advance: one sample moves for each whole 0x1000 of the new phase, at most
four per tick (0xFFF + 0x3FFF is 0x4FFE; the rule's prose says three, log 25), and while they do not end the block they
come from it in order and nothing else of the voice changes. (`LastSampleFetchesNextBlock` is the advance that ends it.) -/
def Obligations.PhaseAdvanceMovesSamples : Prop :=
  ∀ (m : Memory) (dir : Byte) (p : Nat) (v : Voice), v.phase < 0x1000 → p ≤ 0x3FFF →
    let n := (v.phase + p) / 0x1000
    let u := advance m dir p v
    n ≤ 4 ∧ u.phase = (v.phase + p) % 0x1000 ∧
    (v.decIndex + n < 16 →
      u = { v with phase := u.phase, window := u.window, decIndex := v.decIndex + n } ∧
      [u.window.w0, u.window.w1, u.window.w2, u.window.w3] =
        ([v.window.w0, v.window.w1, v.window.w2, v.window.w3] ++ (v.decSamples.toList.drop v.decIndex).take n).drop n)

/-- 42_voice.md R191 to R194: an advance that pops a block's last sample, in any of its crossings (that there can be a
fourth is the model's reading of R190, log 25), fetches the next block at once: nine bytes on after a block without END;
after one with END at the directory's loop address, low byte first, which also sets ENDX and, without LOOP, ends the
envelope. The samples after the old block's come from the new one, and nothing else of the voice changes. -/
def Obligations.LastSampleFetchesNextBlock : Prop :=
  ∀ (m : Memory) (dir : Byte) (p : Nat) (v : Voice), v.phase < 0x1000 → p ≤ 0x3FFF → v.decIndex < 16 →
    let n := (v.phase + p) / 0x1000
    let u := advance m dir p v
    let b := decodeBlock m u.brrAddr v
    let entry := BitVec.ofNat 16 (dir.toNat * 0x100 + v.regs.srcn.toNat * 4)
    16 ≤ v.decIndex + n →
    n ≤ 4 ∧
    u = { b with
      phase := (v.phase + p) % 0x1000, window := u.window, decIndex := v.decIndex + n - 16, brrAddr := u.brrAddr,
      endx := u.endx, envMode := u.envMode, envLevel := u.envLevel } ∧
    [u.window.w0, u.window.w1, u.window.w2, u.window.w3] =
      ([v.window.w0, v.window.w1, v.window.w2, v.window.w3] ++ v.decSamples.toList.drop v.decIndex ++
        b.decSamples.toList.take (v.decIndex + n - 16)).drop n ∧
    (v.decEnd = false → u.brrAddr = v.brrAddr + 9 ∧ u.endx = v.endx ∧ u.envMode = v.envMode ∧ u.envLevel = v.envLevel) ∧
    (v.decEnd = true →
      u.brrAddr = (Memory.read m (entry + 3) ++ Memory.read m (entry + 2) : BitVec 16) ∧ u.endx = true ∧
      (v.decLoop = true → u.envMode = v.envMode ∧ u.envLevel = v.envLevel) ∧
      (v.decLoop = false → u.envMode = .release ∧ u.envLevel = 0))

/-- 42_voice.md R194: an ENDX flag stays set until a write to 0x7C, the voice's key-on, a LOAD or RESET. -/
def Obligations.EndxIsStickyUntilCleared : Prop :=
  ∀ (i : Instr) (s t : State) (v : VoiceId), exec i s = .next t → s.voices[v].endx = true → ¬ clearsEndx v i →
    t.voices[v].endx = true

/-! ## The BRR decoder -/

/-- 40_brr_decoder.md R133, R135 to R138: one sample, for each of the four filters, the second history value halved as R134
says. -/
def Obligations.SampleDecodesByItsFilter : Prop :=
  ∀ (sh : Nat) (c : Int) (p1 q : Sample), let p2 := q >>> 1
    let s := if sh ≤ 12 then (c * 2 ^ sh) >>> 1 else if c < 0 then -2048 else 0
    let out (x : Int) := wrap16 (clamp16 x * 2)
    decodeSample sh 0 c p1 q = out s ∧
    decodeSample sh 1 c p1 q = out (s + (p1 >>> 1) + ((-p1) >>> 5)) ∧
    decodeSample sh 2 c p1 q = out (s + p1 - p2 + (p2 >>> 4) + ((p1 * -3) >>> 6)) ∧
    decodeSample sh 3 c p1 q = out (s + p1 - p2 + ((p1 * -13) >>> 7) + ((p2 * 3) >>> 4))

/-- 40_brr_decoder.md R131, R132, R134, R138: a decoded block: its flags, its sixteen samples each predicted from the two
before it across the block boundary, every one even and in range, and the history it leaves. -/
def Obligations.BlockSamplesFollowTheirHistory : Prop :=
  ∀ (m : Memory) (a : Addr) (v : Voice), let u := decodeBlock m a v
    let header := Memory.read m a
    let history : List Sample := [v.decP2, v.decP1] ++ u.decSamples.toList
    u = { v with
      decSamples := u.decSamples, decIndex := 0, decEnd := u.decEnd, decLoop := u.decLoop, decP1 := u.decP1,
      decP2 := u.decP2 } ∧
    u.decLoop = header.getLsbD 1 ∧ u.decEnd = header.getLsbD 0 ∧
    u.decP1 = u.decSamples[15] ∧ u.decP2 = u.decSamples[14] ∧
    ∀ k : Fin 16, u.decSamples[k] % 2 = 0 ∧ InSample u.decSamples[k] ∧
      u.decSamples[k] = decodeSample (header.toNat / 16) (header.extractLsb' 2 2)
        ((Memory.read m (a + 1 + BitVec.ofNat 16 (k.val / 2))).extractLsb' (if k.val % 2 = 0 then 4 else 0) 4).toInt
        (history.getD (k.val + 1) 0) (history.getD k.val 0)

/-! ## The envelope -/

/-- 41_envelope.md R154, R156 to R161, R165: the step outside Release, case by case: the unclamped value, the rate index
that gates its commit, and nothing but the mode, the level and the hidden value changed. -/
def Obligations.EnvelopeStepsByModeAndConfiguration : Prop :=
  ∀ (c : Nat) (v : Voice), v.envMode ≠ .release → let u := envTick c v
    let L : Int := v.envLevel
    let fall : Int := L - 1 - (L - 1) >>> 8
    let ar := v.regs.adsr1.toNat % 16
    u = { v with envMode := u.envMode, envLevel := u.envLevel, envHidden := u.envHidden } ∧
    (v.regs.adsr1.getLsbD 7 = true →
      (v.envMode = .attack → u.envHidden = L + (if ar = 15 then 1024 else 32) ∧ CommittedAt c (ar * 2 + 1) v u) ∧
      (v.envMode = .decay → u.envHidden = fall ∧ CommittedAt c (v.regs.adsr1.toNat / 16 % 8 * 2 + 16) v u) ∧
      (v.envMode = .sustain → u.envHidden = fall ∧ CommittedAt c (v.regs.adsr2.toNat % 32) v u)) ∧
    (v.regs.adsr1.getLsbD 7 = false →
      (v.regs.gain.toNat < 128 → u.envHidden = v.regs.gain.toNat * 16 ∧ CommittedAt c 31 v u) ∧
      (v.regs.gain.toNat / 32 = 4 → u.envHidden = L - 32 ∧ CommittedAt c (v.regs.gain.toNat % 32) v u) ∧
      (v.regs.gain.toNat / 32 = 5 → u.envHidden = fall ∧ CommittedAt c (v.regs.gain.toNat % 32) v u) ∧
      (v.regs.gain.toNat / 32 = 6 → u.envHidden = L + 32 ∧ CommittedAt c (v.regs.gain.toNat % 32) v u) ∧
      (v.regs.gain.toNat / 32 = 7 →
        u.envHidden = L + (if 0 ≤ v.envHidden ∧ v.envHidden < 0x600 then 32 else 8) ∧
        CommittedAt c (v.regs.gain.toNat % 32) v u))

/-- 41_envelope.md R163, R164: the mode after a step outside Release, whether or not its rate fires. (Attack below 0, where
R154 and R164 differ, is log 10 and not stated here.) -/
def Obligations.EnvelopeModesAdvance : Prop :=
  ∀ (c : Nat) (v : Voice), let u := envTick c v
    let level : Int := (if v.regs.adsr1.getLsbD 7 then v.regs.adsr2.toNat else v.regs.gain.toNat) / 32
    (v.envMode = .attack → 0x7FF < u.envHidden → u.envMode = .decay) ∧
    (v.envMode = .attack → 0 ≤ u.envHidden → u.envHidden ≤ 0x7FF → u.envMode = .attack) ∧
    (v.envMode = .decay → u.envHidden >>> 8 = level → u.envMode = .sustain) ∧
    (v.envMode = .decay → u.envHidden >>> 8 ≠ level → u.envMode = .decay) ∧
    (v.envMode = .sustain → u.envMode = .sustain)

/-- 41_envelope.md R162, R166: the level stays within 0..2047 and the hidden value within -32..3071. -/
def Obligations.EnvelopeStaysInRange : Prop :=
  ∀ (c : Nat) (v : Voice), v.envLevel ≤ 2047 →
    (envTick c v).envLevel ≤ 2047 ∧
    (v.envMode ≠ .release → -32 ≤ (envTick c v).envHidden ∧ (envTick c v).envHidden ≤ 3071)

/-- 41_envelope.md R155: in Release the level falls by 8 on every step, stopping at 0, whatever the counter, and nothing
else changes, so 256 steps take it from 2047 to 0; and Release is left only by key-on. -/
def Obligations.ReleaseFallsByEightUntilKeyOn : Prop :=
  (∀ (v : Voice) (counters : List Nat), v.envMode = .release →
    counters.foldl (fun u c => envTick c u) v = { v with envLevel := v.envLevel - 8 * counters.length } ∧
    (v.envLevel = 2047 → counters.length = 256 → (counters.foldl (fun u c => envTick c u) v).envLevel = 0) ∧
    (v.envLevel = 2047 → counters.length = 255 → (counters.foldl (fun u c => envTick c u) v).envLevel = 7)) ∧
  ∀ (i : Instr) (s t : State) (v : VoiceId), exec i s = .next t → s.voices[v].envMode = .release → ¬ keysOn v i →
    t.voices[v].envMode = .release

/-! ## The flush -/

/-- 46_host_port.md R351: FLUSH, unrolled: with fewer than 64 cycles pending nothing changes but the flushing bit, which
ends clear; otherwise one tick runs, and either the rest follows with 64 cycles fewer, or the tick faulted and the flush
stops there with its 64 cycles still pending. -/
def Obligations.FlushRunsATickPer64Cycles : Prop :=
  ∀ s : State, s.fault = none →
    (s.accCycles < 64 → exec .flush s = .next { s with flushing := false, response := .nothing }) ∧
    (64 ≤ s.accCycles → (tick (s.setFlushing true)).fault = none →
      exec .flush s = exec .flush { tick (s.setFlushing true) with accCycles := s.accCycles - 64 }) ∧
    (64 ≤ s.accCycles → (tick (s.setFlushing true)).fault ≠ none →
      ∃ t, exec .flush s = .next t ∧
        t = { tick (s.setFlushing true) with flushing := t.flushing, response := .nothing } ∧
        t.accCycles = s.accCycles)

/-- 46_host_port.md R351, R353: FLUSH completes when its frames fit the ring: it makes one frame per 64 pending cycles,
after the frames already there, and keeps the remainder. -/
def Obligations.FlushWithRoomCompletes : Prop :=
  ∀ s : State, s.fault = none → s.ring.length + s.accCycles / 64 ≤ s.params.ringCapacity →
    ∃ frames, let t := { flush s with response := .nothing }
      exec .flush s = .next t ∧ t.fault = none ∧ t.flushing = false ∧ (s.flushing = false → s.synced = flush s) ∧
      t.accCycles = s.accCycles % 64 ∧ t.ring = s.ring ++ frames ∧ frames.length = s.accCycles / 64 ∧
      t.ticksTotal = s.ticksTotal + s.accCycles / 64 ∧ t.regs = s.regs ∧ t.refused = s.refused ∧ t.params = s.params ∧
      t.pending = s.pending ∧ ∀ v : VoiceId, VoiceKept s.voices[v] t.voices[v]

/-- 60_exceptions.md R371, 70_reset_and_hazards.md R407: FLUSH with too few free frames fills the ring and then raises
RingOverflow; the cycles of the faulting tick and of those after it stay pending. -/
def Obligations.FlushWithoutRoomOverflows : Prop :=
  ∀ s : State, s.fault = none → s.ring.length ≤ s.params.ringCapacity →
    s.params.ringCapacity < s.ring.length + s.accCycles / 64 →
    ∃ t frames, exec .flush s = .next t ∧ t.fault = some .ringOverflow ∧ t.ring = s.ring ++ frames ∧
      t.ring.length = s.params.ringCapacity ∧ t.accCycles = s.accCycles - 64 * frames.length ∧
      t.ticksTotal = s.ticksTotal + frames.length ∧ t.regs = s.regs

/-- 45_register_port.md R260, R261, 60_exceptions.md R371: an access, LOAD or VCTL whose flush faults does nothing after it:
no value is returned and no write is made. That `S.flushing` is clear then is log 6, that LOAD ends there log 18. -/
def Obligations.AccessEndsWhenItsFlushFaults : Prop :=
  ∀ (i : Instr) (s : State), flushesFirst i = true → s.fault = none → s.flushing = false →
    s.ring.length ≤ s.params.ringCapacity → s.params.ringCapacity < s.ring.length + s.accCycles / 64 →
    exec i s = .next { flush s with response := .nothing } ∧ (flush s).fault = some .ringOverflow

/-! ## Register reads -/

/-- 45_register_port.md R261, R265 to R272, R276: the reads of the stored registers of a voice and of a tap: the flush, and
the byte as last stored; nothing else changes. -/
def Obligations.VoiceRegisterReads : Prop :=
  ∀ (s : State) (v : VoiceId), Ready s → let r := s.voices[v].regs
    exec (.rdVoll v) s = .next { s.synced with response := .byte r.volL } ∧
    exec (.rdVolr v) s = .next { s.synced with response := .byte r.volR } ∧
    exec (.rdPitchl v) s = .next { s.synced with response := .byte r.pitchL } ∧
    exec (.rdPitchh v) s = .next { s.synced with response := .byte r.pitchH } ∧
    exec (.rdSrcn v) s = .next { s.synced with response := .byte r.srcn } ∧
    exec (.rdAdsr1 v) s = .next { s.synced with response := .byte r.adsr1 } ∧
    exec (.rdAdsr2 v) s = .next { s.synced with response := .byte r.adsr2 } ∧
    exec (.rdGain v) s = .next { s.synced with response := .byte r.gain } ∧
    exec (.rdFir v) s = .next { s.synced with response := .byte s.regs.fir[v] }

/-- 45_register_port.md R261, R277 to R283, R285, R287 to R292: the reads of the stored and cached global registers. -/
def Obligations.GlobalRegisterReads : Prop :=
  ∀ s : State, Ready s → let r := s.regs
    exec .rdMvoll s = .next { s.synced with response := .byte r.mvolL } ∧
    exec .rdMvolr s = .next { s.synced with response := .byte r.mvolR } ∧
    exec .rdEvoll s = .next { s.synced with response := .byte r.evolL } ∧
    exec .rdEvolr s = .next { s.synced with response := .byte r.evolR } ∧
    exec .rdKon s = .next { s.synced with response := .byte r.konCache } ∧
    exec .rdKoff s = .next { s.synced with response := .byte r.koffCache } ∧
    exec .rdFlg s = .next { s.synced with response := .byte r.flg } ∧
    exec .rdEfb s = .next { s.synced with response := .byte r.efb } ∧
    exec .rdPmon s = .next { s.synced with response := .byte r.pmon } ∧
    exec .rdNon s = .next { s.synced with response := .byte r.non } ∧
    exec .rdEon s = .next { s.synced with response := .byte r.eon } ∧
    exec .rdDir s = .next { s.synced with response := .byte r.dir } ∧
    exec .rdEsa s = .next { s.synced with response := .byte r.esa } ∧
    exec .rdEdl s = .next { s.synced with response := .byte r.edl }

/-- 45_register_port.md R261, R273, R274, R284, R275, R286: the reads of the derived registers, from the state after the
flush, and of the addresses with no function. -/
def Obligations.DerivedAndUnusedReads : Prop :=
  ∀ (s : State) (v : VoiceId), Ready s →
    exec (.rdEnvx v) s = .next { s.synced with response := .byte (BitVec.ofNat 8 (s.synced.voices[v].envLevel / 16)) } ∧
    exec (.rdOutx v) s = .next { s.synced with response := .byte (BitVec.ofInt 8 (s.synced.voices[v].outEnv >>> 8)) } ∧
    (∃ b : Byte, (∀ w : VoiceId, b.getLsbD w = s.synced.voices[w].endx) ∧
      exec .rdEndx s = .next { s.synced with response := .byte b }) ∧
    exec (.rdUnusedXA v) s = .next { s.synced with response := .byte 0x00 } ∧
    exec (.rdUnusedXB v) s = .next { s.synced with response := .byte 0x00 } ∧
    exec (.rdUnusedXE v) s = .next { s.synced with response := .byte 0x00 } ∧
    exec .rdUnused1D s = .next { s.synced with response := .byte 0x00 }

/-- 45_register_port.md R262: an access above 0x7F: a write changes nothing, a read returns 0x00, and neither flushes. -/
def Obligations.HighAddressesAreIgnored : Prop :=
  ∀ (s : State) (a d : Byte), s.fault = none →
    exec (.rdHigh a) s = .next { s with response := .byte 0x00 } ∧
    exec (.wrHigh a d) s = .next { s with response := .nothing }

/-! ## Register writes -/

/-- 45_register_port.md R260, R265 to R272, R276, 42_voice.md R203: the writes of the stored registers of a voice and of a
tap: the flush, the byte, for SRCN the edge flag, and nothing else. -/
def Obligations.VoiceRegisterWrites : Prop :=
  ∀ (s : State) (v : VoiceId) (d : Byte), Ready s → let t := s.synced; let x := t.voices[v]; let r := x.regs
    exec (.wrVoll v d) s = .next { t with voices := t.voices.set v { x with regs := { r with volL := d } }, response := .nothing } ∧
    exec (.wrVolr v d) s = .next { t with voices := t.voices.set v { x with regs := { r with volR := d } }, response := .nothing } ∧
    exec (.wrPitchl v d) s = .next { t with voices := t.voices.set v { x with regs := { r with pitchL := d } }, response := .nothing } ∧
    exec (.wrPitchh v d) s = .next { t with voices := t.voices.set v { x with regs := { r with pitchH := d } }, response := .nothing } ∧
    exec (.wrSrcn v d) s = .next { t with voices := t.voices.set v { x with regs := { r with srcn := d }, edge := true }, response := .nothing } ∧
    exec (.wrAdsr1 v d) s = .next { t with voices := t.voices.set v { x with regs := { r with adsr1 := d } }, response := .nothing } ∧
    exec (.wrAdsr2 v d) s = .next { t with voices := t.voices.set v { x with regs := { r with adsr2 := d } }, response := .nothing } ∧
    exec (.wrGain v d) s = .next { t with voices := t.voices.set v { x with regs := { r with gain := d } }, response := .nothing } ∧
    exec (.wrFir v d) s = .next { t with regs := { t.regs with fir := t.regs.fir.set v d }, response := .nothing }

/-- 45_register_port.md R260, R277 to R280, R283, R285, R287 to R292: the writes of the stored global registers: the flush
with the old byte, then the byte, and nothing else. -/
def Obligations.GlobalRegisterWrites : Prop :=
  ∀ (s : State) (d : Byte), Ready s → let t := s.synced; let r := s.regs
    exec (.wrMvoll d) s = .next { t with regs := { r with mvolL := d }, response := .nothing } ∧
    exec (.wrMvolr d) s = .next { t with regs := { r with mvolR := d }, response := .nothing } ∧
    exec (.wrEvoll d) s = .next { t with regs := { r with evolL := d }, response := .nothing } ∧
    exec (.wrEvolr d) s = .next { t with regs := { r with evolR := d }, response := .nothing } ∧
    exec (.wrFlg d) s = .next { t with regs := { r with flg := d }, response := .nothing } ∧
    exec (.wrEfb d) s = .next { t with regs := { r with efb := d }, response := .nothing } ∧
    exec (.wrPmon d) s = .next { t with regs := { r with pmon := d }, response := .nothing } ∧
    exec (.wrNon d) s = .next { t with regs := { r with non := d }, response := .nothing } ∧
    exec (.wrEon d) s = .next { t with regs := { r with eon := d }, response := .nothing } ∧
    exec (.wrDir d) s = .next { t with regs := { r with dir := d }, response := .nothing } ∧
    exec (.wrEsa d) s = .next { t with regs := { r with esa := d }, response := .nothing } ∧
    exec (.wrEdl d) s = .next { t with regs := { r with edl := d }, response := .nothing }

/-- 45_register_port.md R273 to R275, R286: the writes that only flush. -/
def Obligations.IgnoredWritesOnlyFlush : Prop :=
  ∀ (s : State) (v : VoiceId) (d : Byte), Ready s →
    ∀ i ∈ [Instr.wrEnvx v d, .wrOutx v d, .wrUnusedXA v d, .wrUnusedXB v d, .wrUnusedXE v d, .wrUnused1D d],
      exec i s = .next { s.synced with response := .nothing }

/-- 45_register_port.md R281, 42_voice.md R201: a KON write sets the cache and keys on every voice whose bit is set, and
touches no other voice and nothing else. -/
def Obligations.KonWriteKeysOnSetVoices : Prop :=
  ∀ (s : State) (d : Byte), Ready s →
    ∃ t, exec (.wrKon d) s = .next t ∧
      t = { s.synced with regs := { s.regs with konCache := d }, voices := t.voices, response := .nothing } ∧
      ∀ v : VoiceId,
        (d.getLsbD v = true → KeyedOn s.synced.mem s.regs.dir s.synced.ticksTotal s.synced.voices[v] t.voices[v]) ∧
        (d.getLsbD v = false → t.voices[v] = s.synced.voices[v])

/-- 45_register_port.md R282, 42_voice.md R202: a KOFF write sets the cache and puts every voice whose bit is set into
Release, changing nothing else. -/
def Obligations.KoffWriteReleasesSetVoices : Prop :=
  ∀ (s : State) (d : Byte), Ready s →
    exec (.wrKoff d) s = .next { s.synced with
      regs := { s.regs with koffCache := d }
      voices := Vector.ofFn fun v : VoiceId =>
        if d.getLsbD v then { s.synced.voices[v] with envMode := .release } else s.synced.voices[v]
      response := .nothing }

/-- 45_register_port.md R284: a write to 0x7C clears every voice's ENDX flag, whatever the value. -/
def Obligations.EndxWriteClearsEveryFlag : Prop :=
  ∀ (s : State) (d : Byte), Ready s →
    exec (.wrEndx d) s = .next { s.synced with
      voices := Vector.ofFn fun v : VoiceId => { s.synced.voices[v] with endx := false }
      response := .nothing }

/-- 45_register_port.md R294: a write and then a read of the same stored or cached register returns the byte written. -/
def Obligations.WriteThenReadReturnsTheByte : Prop :=
  ∀ (s : State) (v : VoiceId) (d : Byte), Ready s → ∀ wr ∈ storedPairs v d,
    ∃ t u, exec wr.1 s = .next t ∧ exec wr.2 t = .next u ∧ u.response = .byte d

/-! ## The host port -/

/-- 46_host_port.md R350: CYC adds its cycles and runs no tick. -/
def Obligations.CycOnlyAddsCycles : Prop :=
  ∀ (s : State) (n : BitVec 28), s.fault = none →
    exec (.cyc n) s = .next { s with accCycles := s.accCycles + n.toNat, response := .nothing }

/-- 46_host_port.md R355: PULL returns the oldest frames, at most as many as there are, removes them, and does not
flush. -/
def Obligations.PullTakesTheOldestFrames : Prop :=
  ∀ (s : State) (n : BitVec 28), s.fault = none →
    ∃ out rest, s.ring = out ++ rest ∧ out.length = min n.toNat s.ring.length ∧
      exec (.pull n) s = .next { s with ring := rest, response := .frames out }

/-- 46_host_port.md R356: VCTL flushes and then sets the two controls of its voice. -/
def Obligations.VctlSetsTheControls : Prop :=
  ∀ (s : State) (v : VoiceId) (solo mute : Bool), Ready s →
    exec (.vctl v solo mute) s = .next { s.synced with
      voices := s.synced.voices.set v { s.synced.voices[v] with solo := solo, mute := mute }
      response := .nothing }

/-- 46_host_port.md R352: what LOAD leaves: the snapshot's register bytes, the KOFF cache kept, every edge flag set and ENDX
flag clear, and then the voices of the KON byte keyed on with the loaded registers. -/
def Obligations.LoadAppliesTheSnapshot : Prop :=
  ∀ (s : State) (data : Vector Byte 128), Ready s →
    ∃ t, exec (.load data) s = .next t ∧
      t = { s.synced with regs := loadedRegs data s.regs.koffCache, voices := t.voices, response := .nothing } ∧
      ∀ v : VoiceId,
        let loaded := { s.synced.voices[v] with regs := loadedVoiceRegs data v, edge := true, endx := false }
        (data[0x4C].getLsbD v = true → KeyedOn s.synced.mem data[0x5D] s.synced.ticksTotal loaded t.voices[v]) ∧
        (data[0x4C].getLsbD v = false → t.voices[v] = loaded)

/-- 70_reset_and_hazards.md R390, R391: RESET, also of a faulted core, gives every field of the core its reset value, and
leaves memory and the parameters alone. -/
def Obligations.ResetRestoresEveryField : Prop :=
  ∀ s : State, ∃ t, exec .reset s = .next t ∧
    (∀ v : VoiceId, t.voices[v] = {
      regs := ⟨0, 0, 0, 0, 0, 0, 0, 0⟩, envLevel := 0, envMode := .release, envHidden := 0, brrAddr := 0,
      decSamples := Vector.replicate 16 0, decIndex := 0, decEnd := false, decLoop := false, decP1 := 0, decP2 := 0,
      window := ⟨0, 0, 0, 0⟩, phase := 0, endx := false, outEnv := 0, lastRaw := 0, edge := false, konTick := 0,
      mute := false, solo := false }) ∧
    t.regs = {
      fir := Vector.replicate 8 0, mvolL := 0, mvolR := 0, evolL := 0, evolR := 0, flg := 0xE0, efb := 0, pmon := 0,
      non := 0, eon := 0, dir := 0, esa := 0, edl := 0, konCache := 0, koffCache := 0 } ∧
    t.noise = 0x4000 ∧ t.counter = 0 ∧ t.echoPos = 0 ∧ t.echoLen = 0 ∧ t.histL = Vector.replicate 8 0 ∧
    t.histR = Vector.replicate 8 0 ∧ t.ring = [] ∧ t.accCycles = 0 ∧ t.flushing = false ∧ t.ticksTotal = 0 ∧
    t.fault = none ∧ t.refused = false ∧ t.mem = s.mem ∧ t.params = s.params

/-- 60_exceptions.md R372: a reserved word sets the refusal mark and changes nothing else of the core, and every word with
a lower operation code is some other operation. -/
def Obligations.ReservedWordsAreRefused : Prop :=
  (∀ p : PortWord, decode p = .reserved ↔ 8 ≤ (p.word.extractLsb' 28 4).toNat) ∧
  ∀ s : State, exec .reserved s = .next { s with refused := true, response := .nothing }

/-- 60_exceptions.md R373: while the core is faulted every operation but RESET is refused and changes nothing else, and
RESET clears the fault. That such a refusal sets the mark is log 5. -/
def Obligations.FaultedCoreRefusesAllButReset : Prop :=
  ∀ s : State, s.fault ≠ none →
    (∀ i : Instr, i ≠ .reset → exec i s = .next { s with refused := true, response := .nothing }) ∧
    ∃ t, exec .reset s = .next t ∧ t.fault = none
end

