-- ==== Sys2Proof/Laws/Memory.lean ====
section
/-! SUPPORT. The laws of memory: a read after a write, the bytes a write leaves alone, and the canonical form. -/

namespace Sys2Proof.Machine

theorem Memory.byteAt_setByte (m : Memory) (lo : Nat) (h : Memory.wfFrom lo m = true) (a c : Nat) (b : Byte) :
    Memory.byteAt (Memory.setByte m a b) c = if c = a then b else Memory.byteAt m c := by
  induction m generalizing lo with
  | nil => simp only [Memory.setByte]; split <;> simp_all [Memory.byteAt]
  | cons cell rest ih =>
    obtain ⟨k, d⟩ := cell
    simp only [Memory.wfFrom, Bool.and_eq_true, decide_eq_true_eq] at h
    have tail := ih (k + 1) h.2
    have absent : ∀ e ≤ k, Memory.byteAt rest e = Memory.unlisted := by
      have below : ∀ (r : Memory) (l : Nat), Memory.wfFrom l r = true → ∀ e < l, Memory.byteAt r e = Memory.unlisted := by
        intro r
        induction r with
        | nil => intros; rfl
        | cons cell r ih2 =>
          obtain ⟨k2, d2⟩ := cell
          intro l hl e he
          simp only [Memory.wfFrom, Bool.and_eq_true, decide_eq_true_eq] at hl
          simp only [Memory.byteAt, show ¬ e = k2 by omega, if_false]
          exact ih2 _ hl.2 _ (by omega)
      exact fun e he => below rest (k + 1) h.2 e (by omega)
    simp only [Memory.setByte]
    split
    · rename_i hlt
      split <;> rename_i hb
      · simp only [Memory.byteAt]
        by_cases hc : c = a
        · subst hc; simp [show ¬ c = k by omega, absent c (by omega), hb]
        · simp [hc]
      · simp only [Memory.byteAt]
    · split
      · rename_i hk
        subst hk
        split <;> rename_i hb
        · by_cases hc : c = a
          · subst hc; simp [absent c (le_refl _), hb]
          · simp [Memory.byteAt, hc]
        · simp only [Memory.byteAt]; split <;> simp_all
      · simp only [Memory.byteAt, tail]
        split <;> split <;> simp_all

/-- Setting a byte changes no other byte, whatever form the list is in. -/
theorem Memory.byteAt_setByte_ne (m : Memory) (a c : Nat) (b : Byte) (hc : c ≠ a) :
    Memory.byteAt (Memory.setByte m a b) c = Memory.byteAt m c := by
  induction m with
  | nil => simp only [Memory.setByte]; split <;> simp [Memory.byteAt, hc]
  | cons cell rest ih =>
    obtain ⟨k, d⟩ := cell
    simp only [Memory.setByte]
    repeat' split
    all_goals simp_all [Memory.byteAt]

theorem Memory.wfFrom_mono {m : Memory} {lo hi : Nat} (h : Memory.wfFrom hi m = true) (hle : lo ≤ hi) :
    Memory.wfFrom lo m = true := by
  cases m with
  | nil => rfl
  | cons cell rest =>
    obtain ⟨k, d⟩ := cell
    simp only [Memory.wfFrom, Bool.and_eq_true, decide_eq_true_eq] at h ⊢
    exact ⟨⟨⟨by omega, h.1.1.2⟩, h.1.2⟩, h.2⟩

theorem Memory.wfFrom_setByte (m : Memory) (lo a : Nat) (b : Byte) (h : Memory.wfFrom lo m = true) (ha : lo ≤ a)
    (hb : a < 0x10000) : Memory.wfFrom lo (Memory.setByte m a b) = true := by
  induction m generalizing lo with
  | nil => simp only [Memory.setByte]; split <;> simp_all [Memory.wfFrom]
  | cons cell rest ih =>
    obtain ⟨k, d⟩ := cell
    have hw := h
    simp only [Memory.wfFrom, Bool.and_eq_true, decide_eq_true_eq] at h
    simp only [Memory.setByte]
    split
    · split
      · exact hw
      · simp only [Memory.wfFrom, Bool.and_eq_true, decide_eq_true_eq]
        exact ⟨⟨⟨ha, hb⟩, by assumption⟩, ⟨⟨by omega, h.1.1.2⟩, h.1.2⟩, h.2⟩
    · split
      · rename_i hk
        split
        · exact Memory.wfFrom_mono h.2 (by omega)
        · simp only [Memory.wfFrom, Bool.and_eq_true, decide_eq_true_eq]
          exact ⟨⟨⟨ha, hb⟩, by assumption⟩, hk ▸ h.2⟩
      · simp only [Memory.wfFrom, Bool.and_eq_true, decide_eq_true_eq]
        exact ⟨h.1, ih _ h.2 (by omega)⟩

/-- Every memory operation keeps the canonical form: the byte write. -/
theorem Memory.wf_write {m : Memory} (h : Memory.wf m = true) (a : Addr) (b : Byte) : Memory.wf (Memory.write m a b) = true :=
  Memory.wfFrom_setByte m 0 a.toNat b h (Nat.zero_le _) a.isLt

theorem Memory.wf_write16 {m : Memory} (h : Memory.wf m = true) (a : Addr) (v : Sample) :
    Memory.wf (Memory.write16 m a v) = true := Memory.wf_write (Memory.wf_write h _ _) _ _

theorem Memory.wf_writeAll {m : Memory} (h : Memory.wf m = true) (a : Addr) (bytes : List Byte) :
    Memory.wf (Memory.writeAll m a bytes) = true := by
  induction bytes generalizing m a with
  | nil => exact h
  | cons b rest ih => exact ih (Memory.wf_write h a b) (a + 1)

/-- A read after a write of one byte, at every address. -/
theorem Memory.read_write {m : Memory} (h : Memory.wf m = true) (a c : Addr) (b : Byte) :
    Memory.read (Memory.write m a b) c = if c = a then b else Memory.read m c := by
  simp only [Memory.read, Memory.write, Memory.byteAt_setByte m 0 h, BitVec.toNat_inj]

/-- A write of one byte leaves every other byte alone, whatever form the memory is in. -/
theorem Memory.read_write_ne (m : Memory) {a c : Addr} (b : Byte) (h : c ≠ a) :
    Memory.read (Memory.write m a b) c = Memory.read m c :=
  Memory.byteAt_setByte_ne m _ _ b fun e => h (BitVec.eq_of_toNat_eq e)

/-- Where `MEM`'s bytes after the first go: one address on. -/
theorem Memory.addr_succ (a : Addr) (k : Nat) : a + BitVec.ofNat 16 (k + 1) = a + 1 + BitVec.ofNat 16 k := by
  rw [show BitVec.ofNat 16 (k + 1) = 1 + BitVec.ofNat 16 k by rw [Nat.add_comm, BitVec.ofNat_add]; rfl, BitVec.add_assoc]

/-- A host memory write leaves every address none of its bytes fall on alone. -/
theorem Memory.read_writeAll_ne (m : Memory) (a c : Addr) (bytes : List Byte)
    (h : ∀ k < bytes.length, c ≠ a + BitVec.ofNat 16 k) : Memory.read (Memory.writeAll m a bytes) c = Memory.read m c := by
  induction bytes generalizing m a with
  | nil => rfl
  | cons b rest ih =>
    have h0 : c ≠ a := by simpa using h 0 (by simp)
    rw [Memory.writeAll, ih, Memory.read_write_ne m b h0]
    exact fun k hk => Memory.addr_succ a k ▸ h (k + 1) (by simpa using hk)

/-- A 16-bit write leaves every byte outside its two alone. -/
theorem Memory.read_write16_ne {m : Memory} (h : Memory.wf m = true) (a c : Addr) (v : Sample) (h0 : c ≠ a)
    (h1 : c ≠ a + 1) : Memory.read (Memory.write16 m a v) c = Memory.read m c := by
  rw [Memory.write16, Memory.read_write (Memory.wf_write h _ _), if_neg h1, Memory.read_write h, if_neg h0]

theorem Memory.reset_wf : Memory.wf State.reset.mem = true := rfl

end Sys2Proof.Machine
end

