-- ==== Sys2Proof/Laws/State.lean ====
section
/-! SUPPORT. One lemma per field per named update of the state, and the voice array's reads after writes. -/

namespace Sys2Proof.Machine

variable (s : State)

/-- A voice read after one voice is replaced. -/
theorem State.setVoice_getElem (v w : VoiceId) (x : Voice) :
    (s.setVoice v x).voices[w] = if w = v then x else s.voices[w] := by
  simp [State.setVoice, Vector.getElem_set, Fin.ext_iff, eq_comm]

@[simp] theorem State.setVoice_get (v : VoiceId) (x : Voice) : (s.setVoice v x).voices[v] = x := by
  rw [State.setVoice_getElem, if_pos rfl]

theorem State.setVoice_get_ne {v w : VoiceId} (x : Voice) (h : w ≠ v) : (s.setVoice v x).voices[w] = s.voices[w] := by
  rw [State.setVoice_getElem, if_neg h]

/-- A voice read after one voice is changed. -/
theorem State.updateVoice_getElem (v w : VoiceId) (f : Voice → Voice) :
    (s.updateVoice v f).voices[w] = if w = v then f s.voices[v] else s.voices[w] := by
  rw [State.updateVoice, State.setVoice_getElem]

@[simp] theorem State.setVoice_voices (v : VoiceId) (x : Voice) : (s.setVoice v x).voices = s.voices.set v x := rfl
@[simp] theorem State.setVoice_regs (v : VoiceId) (x : Voice) : (s.setVoice v x).regs = s.regs := rfl
@[simp] theorem State.setVoice_noise (v : VoiceId) (x : Voice) : (s.setVoice v x).noise = s.noise := rfl
@[simp] theorem State.setVoice_counter (v : VoiceId) (x : Voice) : (s.setVoice v x).counter = s.counter := rfl
@[simp] theorem State.setVoice_echoPos (v : VoiceId) (x : Voice) : (s.setVoice v x).echoPos = s.echoPos := rfl
@[simp] theorem State.setVoice_echoLen (v : VoiceId) (x : Voice) : (s.setVoice v x).echoLen = s.echoLen := rfl
@[simp] theorem State.setVoice_histL (v : VoiceId) (x : Voice) : (s.setVoice v x).histL = s.histL := rfl
@[simp] theorem State.setVoice_histR (v : VoiceId) (x : Voice) : (s.setVoice v x).histR = s.histR := rfl
@[simp] theorem State.setVoice_ring (v : VoiceId) (x : Voice) : (s.setVoice v x).ring = s.ring := rfl
@[simp] theorem State.setVoice_accCycles (v : VoiceId) (x : Voice) : (s.setVoice v x).accCycles = s.accCycles := rfl
@[simp] theorem State.setVoice_flushing (v : VoiceId) (x : Voice) : (s.setVoice v x).flushing = s.flushing := rfl
@[simp] theorem State.setVoice_ticksTotal (v : VoiceId) (x : Voice) : (s.setVoice v x).ticksTotal = s.ticksTotal := rfl
@[simp] theorem State.setVoice_fault (v : VoiceId) (x : Voice) : (s.setVoice v x).fault = s.fault := rfl
@[simp] theorem State.setVoice_refused (v : VoiceId) (x : Voice) : (s.setVoice v x).refused = s.refused := rfl
@[simp] theorem State.setVoice_mem (v : VoiceId) (x : Voice) : (s.setVoice v x).mem = s.mem := rfl
@[simp] theorem State.setVoice_params (v : VoiceId) (x : Voice) : (s.setVoice v x).params = s.params := rfl
@[simp] theorem State.setVoice_pending (v : VoiceId) (x : Voice) : (s.setVoice v x).pending = s.pending := rfl
@[simp] theorem State.setVoice_response (v : VoiceId) (x : Voice) : (s.setVoice v x).response = s.response := rfl
@[simp] theorem State.setVoice_receiver (v : VoiceId) (x : Voice) : (s.setVoice v x).receiver = s.receiver := rfl

@[simp] theorem State.answer_voices (r : Response) : (s.answer r).voices = s.voices := rfl
@[simp] theorem State.answer_regs (r : Response) : (s.answer r).regs = s.regs := rfl
@[simp] theorem State.answer_noise (r : Response) : (s.answer r).noise = s.noise := rfl
@[simp] theorem State.answer_counter (r : Response) : (s.answer r).counter = s.counter := rfl
@[simp] theorem State.answer_echoPos (r : Response) : (s.answer r).echoPos = s.echoPos := rfl
@[simp] theorem State.answer_echoLen (r : Response) : (s.answer r).echoLen = s.echoLen := rfl
@[simp] theorem State.answer_histL (r : Response) : (s.answer r).histL = s.histL := rfl
@[simp] theorem State.answer_histR (r : Response) : (s.answer r).histR = s.histR := rfl
@[simp] theorem State.answer_ring (r : Response) : (s.answer r).ring = s.ring := rfl
@[simp] theorem State.answer_accCycles (r : Response) : (s.answer r).accCycles = s.accCycles := rfl
@[simp] theorem State.answer_flushing (r : Response) : (s.answer r).flushing = s.flushing := rfl
@[simp] theorem State.answer_ticksTotal (r : Response) : (s.answer r).ticksTotal = s.ticksTotal := rfl
@[simp] theorem State.answer_fault (r : Response) : (s.answer r).fault = s.fault := rfl
@[simp] theorem State.answer_refused (r : Response) : (s.answer r).refused = s.refused := rfl
@[simp] theorem State.answer_mem (r : Response) : (s.answer r).mem = s.mem := rfl
@[simp] theorem State.answer_params (r : Response) : (s.answer r).params = s.params := rfl
@[simp] theorem State.answer_pending (r : Response) : (s.answer r).pending = s.pending := rfl
@[simp] theorem State.answer_response (r : Response) : (s.answer r).response = r := rfl
@[simp] theorem State.answer_receiver (r : Response) : (s.answer r).receiver = s.receiver := rfl

@[simp] theorem State.raiseFault_voices (r : Fault) : (s.raiseFault r).voices = s.voices := rfl
@[simp] theorem State.raiseFault_regs (r : Fault) : (s.raiseFault r).regs = s.regs := rfl
@[simp] theorem State.raiseFault_noise (r : Fault) : (s.raiseFault r).noise = s.noise := rfl
@[simp] theorem State.raiseFault_counter (r : Fault) : (s.raiseFault r).counter = s.counter := rfl
@[simp] theorem State.raiseFault_echoPos (r : Fault) : (s.raiseFault r).echoPos = s.echoPos := rfl
@[simp] theorem State.raiseFault_echoLen (r : Fault) : (s.raiseFault r).echoLen = s.echoLen := rfl
@[simp] theorem State.raiseFault_histL (r : Fault) : (s.raiseFault r).histL = s.histL := rfl
@[simp] theorem State.raiseFault_histR (r : Fault) : (s.raiseFault r).histR = s.histR := rfl
@[simp] theorem State.raiseFault_ring (r : Fault) : (s.raiseFault r).ring = s.ring := rfl
@[simp] theorem State.raiseFault_accCycles (r : Fault) : (s.raiseFault r).accCycles = s.accCycles := rfl
@[simp] theorem State.raiseFault_flushing (r : Fault) : (s.raiseFault r).flushing = s.flushing := rfl
@[simp] theorem State.raiseFault_ticksTotal (r : Fault) : (s.raiseFault r).ticksTotal = s.ticksTotal := rfl
@[simp] theorem State.raiseFault_fault (r : Fault) : (s.raiseFault r).fault = some r := rfl
@[simp] theorem State.raiseFault_refused (r : Fault) : (s.raiseFault r).refused = s.refused := rfl
@[simp] theorem State.raiseFault_mem (r : Fault) : (s.raiseFault r).mem = s.mem := rfl
@[simp] theorem State.raiseFault_params (r : Fault) : (s.raiseFault r).params = s.params := rfl
@[simp] theorem State.raiseFault_pending (r : Fault) : (s.raiseFault r).pending = s.pending := rfl
@[simp] theorem State.raiseFault_response (r : Fault) : (s.raiseFault r).response = s.response := rfl
@[simp] theorem State.raiseFault_receiver (r : Fault) : (s.raiseFault r).receiver = s.receiver := rfl

@[simp] theorem State.refuse_voices : (s.refuse).voices = s.voices := rfl
@[simp] theorem State.refuse_regs : (s.refuse).regs = s.regs := rfl
@[simp] theorem State.refuse_noise : (s.refuse).noise = s.noise := rfl
@[simp] theorem State.refuse_counter : (s.refuse).counter = s.counter := rfl
@[simp] theorem State.refuse_echoPos : (s.refuse).echoPos = s.echoPos := rfl
@[simp] theorem State.refuse_echoLen : (s.refuse).echoLen = s.echoLen := rfl
@[simp] theorem State.refuse_histL : (s.refuse).histL = s.histL := rfl
@[simp] theorem State.refuse_histR : (s.refuse).histR = s.histR := rfl
@[simp] theorem State.refuse_ring : (s.refuse).ring = s.ring := rfl
@[simp] theorem State.refuse_accCycles : (s.refuse).accCycles = s.accCycles := rfl
@[simp] theorem State.refuse_flushing : (s.refuse).flushing = s.flushing := rfl
@[simp] theorem State.refuse_ticksTotal : (s.refuse).ticksTotal = s.ticksTotal := rfl
@[simp] theorem State.refuse_fault : (s.refuse).fault = s.fault := rfl
@[simp] theorem State.refuse_refused : (s.refuse).refused = true := rfl
@[simp] theorem State.refuse_mem : (s.refuse).mem = s.mem := rfl
@[simp] theorem State.refuse_params : (s.refuse).params = s.params := rfl
@[simp] theorem State.refuse_pending : (s.refuse).pending = s.pending := rfl
@[simp] theorem State.refuse_response : (s.refuse).response = .nothing := rfl
@[simp] theorem State.refuse_receiver : (s.refuse).receiver = s.receiver := rfl

@[simp] theorem State.setFlushing_voices (b : Bool) : (s.setFlushing b).voices = s.voices := rfl
@[simp] theorem State.setFlushing_regs (b : Bool) : (s.setFlushing b).regs = s.regs := rfl
@[simp] theorem State.setFlushing_noise (b : Bool) : (s.setFlushing b).noise = s.noise := rfl
@[simp] theorem State.setFlushing_counter (b : Bool) : (s.setFlushing b).counter = s.counter := rfl
@[simp] theorem State.setFlushing_echoPos (b : Bool) : (s.setFlushing b).echoPos = s.echoPos := rfl
@[simp] theorem State.setFlushing_echoLen (b : Bool) : (s.setFlushing b).echoLen = s.echoLen := rfl
@[simp] theorem State.setFlushing_histL (b : Bool) : (s.setFlushing b).histL = s.histL := rfl
@[simp] theorem State.setFlushing_histR (b : Bool) : (s.setFlushing b).histR = s.histR := rfl
@[simp] theorem State.setFlushing_ring (b : Bool) : (s.setFlushing b).ring = s.ring := rfl
@[simp] theorem State.setFlushing_accCycles (b : Bool) : (s.setFlushing b).accCycles = s.accCycles := rfl
@[simp] theorem State.setFlushing_flushing (b : Bool) : (s.setFlushing b).flushing = b := rfl
@[simp] theorem State.setFlushing_ticksTotal (b : Bool) : (s.setFlushing b).ticksTotal = s.ticksTotal := rfl
@[simp] theorem State.setFlushing_fault (b : Bool) : (s.setFlushing b).fault = s.fault := rfl
@[simp] theorem State.setFlushing_refused (b : Bool) : (s.setFlushing b).refused = s.refused := rfl
@[simp] theorem State.setFlushing_mem (b : Bool) : (s.setFlushing b).mem = s.mem := rfl
@[simp] theorem State.setFlushing_params (b : Bool) : (s.setFlushing b).params = s.params := rfl
@[simp] theorem State.setFlushing_pending (b : Bool) : (s.setFlushing b).pending = s.pending := rfl
@[simp] theorem State.setFlushing_response (b : Bool) : (s.setFlushing b).response = s.response := rfl
@[simp] theorem State.setFlushing_receiver (b : Bool) : (s.setFlushing b).receiver = s.receiver := rfl

@[simp] theorem State.spendTick_voices : (s.spendTick).voices = s.voices := by simp only [State.spendTick]
@[simp] theorem State.spendTick_regs : (s.spendTick).regs = s.regs := by simp only [State.spendTick]
@[simp] theorem State.spendTick_noise : (s.spendTick).noise = s.noise := by simp only [State.spendTick]
@[simp] theorem State.spendTick_counter : (s.spendTick).counter = s.counter := by simp only [State.spendTick]
@[simp] theorem State.spendTick_echoPos : (s.spendTick).echoPos = s.echoPos := by simp only [State.spendTick]
@[simp] theorem State.spendTick_echoLen : (s.spendTick).echoLen = s.echoLen := by simp only [State.spendTick]
@[simp] theorem State.spendTick_histL : (s.spendTick).histL = s.histL := by simp only [State.spendTick]
@[simp] theorem State.spendTick_histR : (s.spendTick).histR = s.histR := by simp only [State.spendTick]
@[simp] theorem State.spendTick_ring : (s.spendTick).ring = s.ring := by simp only [State.spendTick]
@[simp] theorem State.spendTick_accCycles : (s.spendTick).accCycles = s.accCycles - 64 := by simp only [State.spendTick]
@[simp] theorem State.spendTick_flushing : (s.spendTick).flushing = s.flushing := by simp only [State.spendTick]
@[simp] theorem State.spendTick_ticksTotal : (s.spendTick).ticksTotal = s.ticksTotal := by simp only [State.spendTick]
@[simp] theorem State.spendTick_fault : (s.spendTick).fault = s.fault := by simp only [State.spendTick]
@[simp] theorem State.spendTick_refused : (s.spendTick).refused = s.refused := by simp only [State.spendTick]
@[simp] theorem State.spendTick_mem : (s.spendTick).mem = s.mem := by simp only [State.spendTick]
@[simp] theorem State.spendTick_params : (s.spendTick).params = s.params := by simp only [State.spendTick]
@[simp] theorem State.spendTick_pending : (s.spendTick).pending = s.pending := by simp only [State.spendTick]
@[simp] theorem State.spendTick_response : (s.spendTick).response = s.response := by simp only [State.spendTick]
@[simp] theorem State.spendTick_receiver : (s.spendTick).receiver = s.receiver := by simp only [State.spendTick]

@[simp] theorem State.addCycles_voices (n : Nat) : (s.addCycles n).voices = s.voices := rfl
@[simp] theorem State.addCycles_regs (n : Nat) : (s.addCycles n).regs = s.regs := rfl
@[simp] theorem State.addCycles_noise (n : Nat) : (s.addCycles n).noise = s.noise := rfl
@[simp] theorem State.addCycles_counter (n : Nat) : (s.addCycles n).counter = s.counter := rfl
@[simp] theorem State.addCycles_echoPos (n : Nat) : (s.addCycles n).echoPos = s.echoPos := rfl
@[simp] theorem State.addCycles_echoLen (n : Nat) : (s.addCycles n).echoLen = s.echoLen := rfl
@[simp] theorem State.addCycles_histL (n : Nat) : (s.addCycles n).histL = s.histL := rfl
@[simp] theorem State.addCycles_histR (n : Nat) : (s.addCycles n).histR = s.histR := rfl
@[simp] theorem State.addCycles_ring (n : Nat) : (s.addCycles n).ring = s.ring := rfl
@[simp] theorem State.addCycles_accCycles (n : Nat) : (s.addCycles n).accCycles = s.accCycles + n := rfl
@[simp] theorem State.addCycles_flushing (n : Nat) : (s.addCycles n).flushing = s.flushing := rfl
@[simp] theorem State.addCycles_ticksTotal (n : Nat) : (s.addCycles n).ticksTotal = s.ticksTotal := rfl
@[simp] theorem State.addCycles_fault (n : Nat) : (s.addCycles n).fault = s.fault := rfl
@[simp] theorem State.addCycles_refused (n : Nat) : (s.addCycles n).refused = s.refused := rfl
@[simp] theorem State.addCycles_mem (n : Nat) : (s.addCycles n).mem = s.mem := rfl
@[simp] theorem State.addCycles_params (n : Nat) : (s.addCycles n).params = s.params := rfl
@[simp] theorem State.addCycles_pending (n : Nat) : (s.addCycles n).pending = s.pending := rfl
@[simp] theorem State.addCycles_response (n : Nat) : (s.addCycles n).response = s.response := rfl
@[simp] theorem State.addCycles_receiver (n : Nat) : (s.addCycles n).receiver = s.receiver := rfl

@[simp] theorem State.hostWrite_voices (a : Addr) (bytes : List Byte) : (s.hostWrite a bytes).voices = s.voices := rfl
@[simp] theorem State.hostWrite_regs (a : Addr) (bytes : List Byte) : (s.hostWrite a bytes).regs = s.regs := rfl
@[simp] theorem State.hostWrite_noise (a : Addr) (bytes : List Byte) : (s.hostWrite a bytes).noise = s.noise := rfl
@[simp] theorem State.hostWrite_counter (a : Addr) (bytes : List Byte) : (s.hostWrite a bytes).counter = s.counter := rfl
@[simp] theorem State.hostWrite_echoPos (a : Addr) (bytes : List Byte) : (s.hostWrite a bytes).echoPos = s.echoPos := rfl
@[simp] theorem State.hostWrite_echoLen (a : Addr) (bytes : List Byte) : (s.hostWrite a bytes).echoLen = s.echoLen := rfl
@[simp] theorem State.hostWrite_histL (a : Addr) (bytes : List Byte) : (s.hostWrite a bytes).histL = s.histL := rfl
@[simp] theorem State.hostWrite_histR (a : Addr) (bytes : List Byte) : (s.hostWrite a bytes).histR = s.histR := rfl
@[simp] theorem State.hostWrite_ring (a : Addr) (bytes : List Byte) : (s.hostWrite a bytes).ring = s.ring := rfl
@[simp] theorem State.hostWrite_accCycles (a : Addr) (bytes : List Byte) : (s.hostWrite a bytes).accCycles = s.accCycles := rfl
@[simp] theorem State.hostWrite_flushing (a : Addr) (bytes : List Byte) : (s.hostWrite a bytes).flushing = s.flushing := rfl
@[simp] theorem State.hostWrite_ticksTotal (a : Addr) (bytes : List Byte) : (s.hostWrite a bytes).ticksTotal = s.ticksTotal := rfl
@[simp] theorem State.hostWrite_fault (a : Addr) (bytes : List Byte) : (s.hostWrite a bytes).fault = s.fault := rfl
@[simp] theorem State.hostWrite_refused (a : Addr) (bytes : List Byte) : (s.hostWrite a bytes).refused = s.refused := rfl
@[simp] theorem State.hostWrite_mem (a : Addr) (bytes : List Byte) : (s.hostWrite a bytes).mem = Memory.writeAll s.mem a bytes := rfl
@[simp] theorem State.hostWrite_params (a : Addr) (bytes : List Byte) : (s.hostWrite a bytes).params = s.params := rfl
@[simp] theorem State.hostWrite_pending (a : Addr) (bytes : List Byte) : (s.hostWrite a bytes).pending = s.pending := rfl
@[simp] theorem State.hostWrite_response (a : Addr) (bytes : List Byte) : (s.hostWrite a bytes).response = s.response := rfl
@[simp] theorem State.hostWrite_receiver (a : Addr) (bytes : List Byte) : (s.hostWrite a bytes).receiver = s.receiver := rfl

end Sys2Proof.Machine
end

