-- ==== Sys2Proof/Laws/Tick.lean ====
section
/-! SUPPORT. What a tick can do, said once: which fields it may write, and its two ends. -/

namespace Sys2Proof.Machine

/-- A loop over a list keeps what each turn keeps. -/
theorem foldl_keeps {α β : Type} (P : β → Prop) (f : β → α → β) (h : ∀ y a, P y → P (f y a)) (l : List α) (y : β)
    (hy : P y) : P (l.foldl f y) := by
  induction l generalizing y with
  | nil => exact hy
  | cons a l ih => exact ih _ (h y a hy)

theorem VoiceKept.refl (v : Voice) : VoiceKept v v := ⟨rfl, rfl, rfl, rfl, rfl⟩

theorem VoiceKept.trans {u v w : Voice} (a : VoiceKept u v) (b : VoiceKept v w) : VoiceKept u w :=
  ⟨b.regs.trans a.regs, b.edge.trans a.edge, b.konTick.trans a.konTick, b.mute.trans a.mute, b.solo.trans a.solo⟩

theorem Kept.refl (s : State) : Kept s s := ⟨rfl, rfl, rfl, rfl, rfl, fun _ => VoiceKept.refl _⟩

theorem Kept.trans {s t u : State} (a : Kept s t) (b : Kept t u) : Kept s u :=
  ⟨b.regs.trans a.regs, b.refused.trans a.refused, b.params.trans a.params, b.pending.trans a.pending,
   b.response.trans a.response, fun v => (a.voices v).trans (b.voices v)⟩

/-! Steps 0 to 4 write the voices and the noise word, nothing else. -/

/-- `t` is `s` but for its voices and its noise word. -/
structure RenderFrame (s t : State) : Prop where
  regs : t.regs = s.regs
  counter : t.counter = s.counter
  echoPos : t.echoPos = s.echoPos
  echoLen : t.echoLen = s.echoLen
  histL : t.histL = s.histL
  histR : t.histR = s.histR
  ring : t.ring = s.ring
  accCycles : t.accCycles = s.accCycles
  flushing : t.flushing = s.flushing
  ticksTotal : t.ticksTotal = s.ticksTotal
  fault : t.fault = s.fault
  refused : t.refused = s.refused
  mem : t.mem = s.mem
  params : t.params = s.params
  pending : t.pending = s.pending
  response : t.response = s.response
  receiver : t.receiver = s.receiver

theorem RenderFrame.refl (s : State) : RenderFrame s s := by constructor <;> rfl

theorem RenderFrame.trans {s t u : State} (a : RenderFrame s t) (b : RenderFrame t u) : RenderFrame s u where
  regs := b.regs.trans a.regs
  counter := b.counter.trans a.counter
  echoPos := b.echoPos.trans a.echoPos
  echoLen := b.echoLen.trans a.echoLen
  histL := b.histL.trans a.histL
  histR := b.histR.trans a.histR
  ring := b.ring.trans a.ring
  accCycles := b.accCycles.trans a.accCycles
  flushing := b.flushing.trans a.flushing
  ticksTotal := b.ticksTotal.trans a.ticksTotal
  fault := b.fault.trans a.fault
  refused := b.refused.trans a.refused
  mem := b.mem.trans a.mem
  params := b.params.trans a.params
  pending := b.pending.trans a.pending
  response := b.response.trans a.response
  receiver := b.receiver.trans a.receiver

theorem State.setVoice_renderFrame (s : State) (v : VoiceId) (x : Voice) : RenderFrame s (s.setVoice v x) := by
  constructor <;> simp only [State.setVoice]

theorem flgSiliconEffects_frame (s : State) : RenderFrame s (flgSiliconEffects s) := by
  unfold flgSiliconEffects
  split
  · exact foldl_keeps (RenderFrame s) _ (fun t v ht => ht.trans (t.setVoice_renderFrame v _)) voiceIds s (.refl s)
  · exact .refl s

theorem noiseStep_frame (s : State) : RenderFrame s (noiseStep s) := by
  unfold noiseStep
  split
  · constructor <;> rfl
  · exact .refl s

theorem renderVoices_frame (s : State) : RenderFrame s (renderVoices s).1 :=
  foldl_keeps (fun y : State × Mix => RenderFrame s y.1) _
    (fun y v hy => hy.trans (y.1.setVoice_renderFrame v _)) voiceIds _ (.refl s)

theorem tickRender_frame (s : State) : RenderFrame s (tickRender s).1 :=
  (flgSiliconEffects_frame s).trans ((noiseStep_frame _).trans (renderVoices_frame _))

theorem echoFrameAddr_of_frame {s t : State} (h : RenderFrame s t) : echoFrameAddr t = echoFrameAddr s := by
  rw [echoFrameAddr, echoFrameAddr, h.regs, h.echoPos]

/-! The two ends of a tick. -/

/-- The state of a tick just before its ring push: steps 0 to 4 and the echo read. -/
def beforePush (s : State) : State := echoRead (tickRender s).1

/-- The state just after it. -/
def afterPush (s : State) : State := ringPush (outputFrame (beforePush s) (tickRender s).2 (firOut (beforePush s))) (beforePush s)

/-- A tick stops at a full ring, or completes (44_dsp_tick.md R225, R237; 60_exceptions.md R371). -/
theorem tick_cases (s : State) :
    (s.params.ringCapacity ≤ s.ring.length ∧ tick s = (beforePush s).raiseFault .ringOverflow) ∨
    (s.ring.length < s.params.ringCapacity ∧ tick s = tickFinish (tickRender s).2 (firOut (beforePush s)) (afterPush s)) := by
  have hfull : ringFull (beforePush s) = decide (s.params.ringCapacity ≤ s.ring.length) := by
    simp only [ringFull, beforePush, echoRead, (tickRender_frame s).params, (tickRender_frame s).ring]
  have ht : tick s = if ringFull (beforePush s) then (beforePush s).raiseFault .ringOverflow
      else tickFinish (tickRender s).2 (firOut (beforePush s)) (afterPush s) := rfl
  rw [hfull] at ht
  by_cases h : s.params.ringCapacity ≤ s.ring.length
  · exact .inl ⟨h, by simpa [h] using ht⟩
  · exact .inr ⟨by omega, by simpa [h] using ht⟩

/-- What a tick leaves alone whichever way it ends, but for the voices. -/
structure TickFrame (s t : State) : Prop where
  regs : t.regs = s.regs
  accCycles : t.accCycles = s.accCycles
  flushing : t.flushing = s.flushing
  refused : t.refused = s.refused
  params : t.params = s.params
  pending : t.pending = s.pending
  response : t.response = s.response

theorem TickFrame.trans {s t u : State} (a : TickFrame s t) (b : TickFrame t u) : TickFrame s u where
  regs := b.regs.trans a.regs
  accCycles := b.accCycles.trans a.accCycles
  flushing := b.flushing.trans a.flushing
  refused := b.refused.trans a.refused
  params := b.params.trans a.params
  pending := b.pending.trans a.pending
  response := b.response.trans a.response

theorem RenderFrame.tickFrame {s t : State} (h : RenderFrame s t) : TickFrame s t :=
  ⟨h.regs, h.accCycles, h.flushing, h.refused, h.params, h.pending, h.response⟩

theorem echoRead_frame (s : State) : TickFrame s (echoRead s) := ⟨rfl, rfl, rfl, rfl, rfl, rfl, rfl⟩

theorem ringPush_frame (f : Frame) (s : State) : TickFrame s (ringPush f s) := ⟨rfl, rfl, rfl, rfl, rfl, rfl, rfl⟩

theorem raiseFault_frame (r : Fault) (s : State) : TickFrame s (s.raiseFault r) := ⟨rfl, rfl, rfl, rfl, rfl, rfl, rfl⟩

theorem beforePush_frame (s : State) : TickFrame s (beforePush s) :=
  (tickRender_frame s).tickFrame.trans (echoRead_frame _)

/-! The echo read writes the histories, and the push the ring, nothing else. -/

theorem echoRead_voices (s : State) : (echoRead s).voices = s.voices := rfl
theorem echoRead_noise (s : State) : (echoRead s).noise = s.noise := rfl
theorem echoRead_ring (s : State) : (echoRead s).ring = s.ring := rfl
theorem echoRead_fault (s : State) : (echoRead s).fault = s.fault := rfl
theorem echoRead_mem (s : State) : (echoRead s).mem = s.mem := rfl
theorem echoRead_counter (s : State) : (echoRead s).counter = s.counter := rfl
theorem echoRead_echoPos (s : State) : (echoRead s).echoPos = s.echoPos := rfl
theorem echoRead_echoLen (s : State) : (echoRead s).echoLen = s.echoLen := rfl
theorem ringPush_voices (f : Frame) (s : State) : (ringPush f s).voices = s.voices := rfl
theorem ringPush_noise (f : Frame) (s : State) : (ringPush f s).noise = s.noise := rfl
theorem ringPush_ring (f : Frame) (s : State) : (ringPush f s).ring = s.ring ++ [f] := rfl
theorem ringPush_fault (f : Frame) (s : State) : (ringPush f s).fault = s.fault := rfl
theorem ringPush_mem (f : Frame) (s : State) : (ringPush f s).mem = s.mem := rfl
theorem ringPush_counter (f : Frame) (s : State) : (ringPush f s).counter = s.counter := rfl
theorem ringPush_echoPos (f : Frame) (s : State) : (ringPush f s).echoPos = s.echoPos := rfl
theorem ringPush_echoLen (f : Frame) (s : State) : (ringPush f s).echoLen = s.echoLen := rfl
theorem ringPush_histL (f : Frame) (s : State) : (ringPush f s).histL = s.histL := rfl
theorem ringPush_histR (f : Frame) (s : State) : (ringPush f s).histR = s.histR := rfl

/-- What steps 6 to 9 leave alone. -/
structure FinishFrame (s t : State) : Prop extends TickFrame s t where
  voices : t.voices = s.voices
  ring : t.ring = s.ring
  fault : t.fault = s.fault
  noise : t.noise = s.noise
  histL : t.histL = s.histL
  histR : t.histR = s.histR

theorem FinishFrame.trans {s t u : State} (a : FinishFrame s t) (b : FinishFrame t u) : FinishFrame s u where
  regs := b.regs.trans a.regs
  accCycles := b.accCycles.trans a.accCycles
  flushing := b.flushing.trans a.flushing
  refused := b.refused.trans a.refused
  params := b.params.trans a.params
  pending := b.pending.trans a.pending
  response := b.response.trans a.response
  voices := b.voices.trans a.voices
  ring := b.ring.trans a.ring
  fault := b.fault.trans a.fault
  noise := b.noise.trans a.noise
  histL := b.histL.trans a.histL
  histR := b.histR.trans a.histR

theorem echoWrite_frame (m : Mix) (e : EchoOut) (s : State) : FinishFrame s (echoWrite m e s) := by
  unfold echoWrite
  split <;> exact ⟨⟨rfl, rfl, rfl, rfl, rfl, rfl, rfl⟩, rfl, rfl, rfl, rfl, rfl, rfl⟩

theorem echoCursor_frame (s : State) : FinishFrame s (echoCursor s) :=
  ⟨⟨rfl, rfl, rfl, rfl, rfl, rfl, rfl⟩, rfl, rfl, rfl, rfl, rfl, rfl⟩

theorem counterStep_frame (s : State) : FinishFrame s (counterStep s) :=
  ⟨⟨rfl, rfl, rfl, rfl, rfl, rfl, rfl⟩, rfl, rfl, rfl, rfl, rfl, rfl⟩

theorem emitVisualization_frame (s : State) : FinishFrame s (emitVisualization s) :=
  ⟨⟨rfl, rfl, rfl, rfl, rfl, rfl, rfl⟩, rfl, rfl, rfl, rfl, rfl, rfl⟩

theorem tickFinish_frame (m : Mix) (e : EchoOut) (s : State) : FinishFrame s (tickFinish m e s) :=
  (echoWrite_frame m e s).trans ((echoCursor_frame _).trans ((counterStep_frame _).trans (emitVisualization_frame _)))

theorem tickFinish_mem (m : Mix) (e : EchoOut) (s : State) : (tickFinish m e s).mem = (echoWrite m e s).mem := rfl

theorem afterPush_frame (s : State) : TickFrame s (afterPush s) := (beforePush_frame s).trans (ringPush_frame _ _)

theorem tick_frame (s : State) : TickFrame s (tick s) := by
  rcases tick_cases s with ⟨-, h⟩ | ⟨-, h⟩
  · rw [h]; exact (beforePush_frame s).trans (raiseFault_frame _ _)
  · rw [h]; exact (afterPush_frame s).trans (tickFinish_frame _ _ _).toTickFrame

/-- The voices after a tick are those after steps 0 to 4. -/
theorem tick_voices (s : State) : (tick s).voices = (tickRender s).1.voices := by
  rcases tick_cases s with ⟨-, h⟩ | ⟨-, h⟩
  · rw [h, State.raiseFault_voices, beforePush, echoRead_voices]
  · rw [h, (tickFinish_frame _ _ _).voices, afterPush, ringPush_voices, beforePush, echoRead_voices]

/-- The noise word after a tick is that after steps 0 to 4. -/
theorem tick_noise (s : State) : (tick s).noise = (tickRender s).1.noise := by
  rcases tick_cases s with ⟨-, h⟩ | ⟨-, h⟩
  · rw [h, State.raiseFault_noise, beforePush, echoRead_noise]
  · rw [h, (tickFinish_frame _ _ _).noise, afterPush, ringPush_noise, beforePush, echoRead_noise]

/-- A completed tick puts one frame at the back of the ring, and a faulting one none. -/
theorem tick_ring (s : State) : (tick s).ring =
    if s.ring.length < s.params.ringCapacity then
      s.ring ++ [outputFrame (beforePush s) (tickRender s).2 (firOut (beforePush s))]
    else s.ring := by
  have hr : (beforePush s).ring = s.ring := by rw [beforePush, echoRead_ring, (tickRender_frame s).ring]
  rcases tick_cases s with ⟨hc, h⟩ | ⟨hc, h⟩
  · rw [h, if_neg (by omega), State.raiseFault_ring, hr]
  · rw [h, if_pos hc, (tickFinish_frame _ _ _).ring, afterPush, ringPush_ring, hr]

/-! What a voice keeps through a tick. -/

theorem decodeBlock_kept (m : Memory) (a : Addr) (v : Voice) : VoiceKept v (decodeBlock m a v) := ⟨rfl, rfl, rfl, rfl, rfl⟩

theorem nextBlock_kept (m : Memory) (dir : Byte) (v : Voice) : VoiceKept v (nextBlock m dir v) := by
  unfold nextBlock
  dsimp only
  split
  · exact .trans (v := loopBlock m dir v) ⟨rfl, rfl, rfl, rfl, rfl⟩ (decodeBlock_kept m _ _)
  · exact .trans (v := sequentialBlock v) ⟨rfl, rfl, rfl, rfl, rfl⟩ (decodeBlock_kept m _ _)

theorem decPop_kept (v : Voice) : VoiceKept v (decPop v) := by
  unfold decPop
  constructor <;> rfl

theorem advanceOne_kept (m : Memory) (dir : Byte) (v : Voice) : VoiceKept v (advanceOne m dir v) := by
  unfold advanceOne
  extract_lets x u
  have h0 : VoiceKept v { v with phase := v.phase - 0x1000, window := ⟨v.window.w1, v.window.w2, v.window.w3, x⟩ } :=
    ⟨rfl, rfl, rfl, rfl, rfl⟩
  have hu : VoiceKept v u := h0.trans (decPop_kept _)
  split
  · exact hu.trans (nextBlock_kept m dir u)
  · exact hu

theorem advanceMany_kept (m : Memory) (dir : Byte) (n : Nat) (v : Voice) : VoiceKept v (advanceMany m dir n v) := by
  induction n generalizing v with
  | zero => exact .refl v
  | succ n ih => exact (advanceOne_kept m dir v).trans (ih _)

theorem advance_kept (m : Memory) (dir : Byte) (p : Nat) (v : Voice) : VoiceKept v (advance m dir p v) := by
  have h : VoiceKept v { v with phase := v.phase + p } := ⟨rfl, rfl, rfl, rfl, rfl⟩
  rw [advance]
  exact h.trans (advanceMany_kept m dir _ _)

theorem envTick_kept (counter : Nat) (v : Voice) : VoiceKept v (envTick counter v) := by
  unfold envTick
  split <;> exact ⟨rfl, rfl, rfl, rfl, rfl⟩

theorem renderVoice_kept (s : State) (i : VoiceId) (h : Sample) (a : Bool) :
    VoiceKept s.voices[i] (renderVoice s i h a).voice :=
  ((advance_kept s.mem s.regs.dir (effectivePitch s.regs.pmon i s.voices[i] h) s.voices[i]).trans
    (envTick_kept s.counter _)).trans ⟨rfl, rfl, rfl, rfl, rfl⟩

theorem State.setVoice_kept (s : State) (i j : VoiceId) (x : Voice) (hx : VoiceKept s.voices[i] x) :
    VoiceKept s.voices[j] (s.setVoice i x).voices[j] := by
  rw [State.setVoice_getElem]
  split
  · rename_i h; rw [h]; exact hx
  · exact .refl _

theorem noiseStep_voices (s : State) : (noiseStep s).voices = s.voices := by
  unfold noiseStep
  split <;> rfl

theorem renderStep_kept (a : Bool) (x : State × Mix) (i j : VoiceId) :
    VoiceKept x.1.voices[j] (renderStep a x i).1.voices[j] :=
  x.1.setVoice_kept i j _ (renderVoice_kept _ _ _ _)

theorem renderVoices_kept (s : State) (j : VoiceId) : VoiceKept s.voices[j] (renderVoices s).1.voices[j] :=
  foldl_keeps (fun y : State × Mix => VoiceKept s.voices[j] y.1.voices[j]) (renderStep (anySolo s))
    (fun y v hy => hy.trans (renderStep_kept _ y v j)) voiceIds (s, Mix.start) (.refl _)

/-- Steps 0 to 4 keep what `VoiceKept` says of every voice. -/
theorem tickRender_kept (s : State) (j : VoiceId) : VoiceKept s.voices[j] (tickRender s).1.voices[j] := by
  have h0 : VoiceKept s.voices[j] (flgSiliconEffects s).voices[j] := by
    unfold flgSiliconEffects
    split
    · exact foldl_keeps (fun t : State => VoiceKept s.voices[j] t.voices[j])
        (fun t v => t.updateVoice v softResetVoice)
        (fun t v ht => ht.trans (t.setVoice_kept v j (softResetVoice t.voices[v]) ⟨rfl, rfl, rfl, rfl, rfl⟩)) voiceIds s (.refl _)
    · exact .refl _
  have h1 : (noiseStep (flgSiliconEffects s)).voices = (flgSiliconEffects s).voices := noiseStep_voices _
  rw [← h1] at h0
  exact h0.trans (renderVoices_kept _ j)

/-- A tick keeps what `Kept` says. -/
theorem tick_kept (s : State) : Kept s (tick s) := by
  have f := tick_frame s
  refine ⟨f.regs, f.refused, f.params, f.pending, f.response, fun v => ?_⟩
  rw [tick_voices]
  exact tickRender_kept s v

/-- A tick of an unfaulted core faults exactly when the ring is full. -/
theorem tick_fault (s : State) (h : s.fault = none) :
    (tick s).fault = if s.params.ringCapacity ≤ s.ring.length then some .ringOverflow else none := by
  rcases tick_cases s with ⟨hc, ht⟩ | ⟨hc, ht⟩
  · rw [ht, if_pos hc, State.raiseFault_fault]
  · rw [ht, if_neg (by omega), (tickFinish_frame _ _ _).fault, afterPush, ringPush_fault, beforePush, echoRead_fault,
      (tickRender_frame s).fault, h]

/-- Memory after a tick: as before it, or with the two echo samples written at the frame's address. -/
theorem tick_mem (s : State) :
    (tick s).mem = s.mem ∨ (echoWriteEnabled s = true ∧ s.ring.length < s.params.ringCapacity ∧ ∃ l r,
      (tick s).mem = Memory.write16 (Memory.write16 s.mem (echoFrameAddr s) l) (echoFrameAddr s + 2) r) := by
  have f := tickRender_frame s
  rcases tick_cases s with ⟨-, ht⟩ | ⟨hc, ht⟩
  · left; rw [ht, State.raiseFault_mem, beforePush, echoRead_mem, f.mem]
  · have hm : (afterPush s).mem = s.mem := by rw [afterPush, ringPush_mem, beforePush, echoRead_mem, f.mem]
    have hp : (afterPush s).echoPos = s.echoPos := by
      rw [afterPush, ringPush_echoPos, beforePush, echoRead_echoPos, f.echoPos]
    have ha : echoFrameAddr (afterPush s) = echoFrameAddr s := by
      rw [echoFrameAddr, echoFrameAddr, (afterPush_frame s).regs, hp]
    have hw : echoWriteEnabled (afterPush s) = echoWriteEnabled s := by
      rw [echoWriteEnabled, echoWriteEnabled, (afterPush_frame s).regs]
    rw [ht, tickFinish_mem, echoWrite, hw, ha]
    split
    · right
      refine ⟨by assumption, hc, echoSample (tickRender s).2.el (firOut (beforePush s)).fl (afterPush s).regs.efb,
        echoSample (tickRender s).2.er (firOut (beforePush s)).fr (afterPush s).regs.efb, ?_⟩
      simp only [hm]
    · left; exact hm

theorem tick_mem_wf (s : State) (h : Memory.wf s.mem = true) : Memory.wf (tick s).mem = true := by
  rcases tick_mem s with e | ⟨-, -, l, r, e⟩
  · rw [e]; exact h
  · rw [e]; exact Memory.wf_write16 (Memory.wf_write16 h _ _) _ _

end Sys2Proof.Machine
end

