-- ==== Sys2Proof/Laws/Port.lean ====
section
/-! SUPPORT. The shape of a flush and of the port operations, said once: what they keep, when they complete, and how they
answer. -/

namespace Sys2Proof.Machine

/-! The flush loop. -/

theorem runTicks_zero (s : State) : runTicks 0 s = s := rfl

theorem runTicks_succ_of_fault (n : Nat) (s : State) (h : (tick s).fault ≠ none) : runTicks (n + 1) s = tick s := by
  have hs : (tick s).fault.isSome = true := Option.isSome_iff_ne_none.mpr h
  rw [runTicks]
  exact if_pos hs

theorem runTicks_succ (n : Nat) (s : State) (h : (tick s).fault = none) :
    runTicks (n + 1) s = runTicks n (tick s).spendTick := by
  have hs : ¬ (tick s).fault.isSome = true := by simp [h]
  rw [runTicks]
  exact if_neg hs

/-- What every tick and every subtraction of cycles keeps, the flush loop keeps. -/
theorem runTicks_keeps (P : State → Prop) (ht : ∀ s, P s → P (tick s)) (hc : ∀ s, P s → P s.spendTick) (n : Nat)
    (s : State) (hs : P s) : P (runTicks n s) := by
  induction n generalizing s with
  | zero => exact hs
  | succ n ih =>
    by_cases h : (tick s).fault = none
    · rw [runTicks_succ n s h]; exact ih _ (hc _ (ht _ hs))
    · rw [runTicks_succ_of_fault n s h]; exact ht _ hs

theorem spendTick_kept (s : State) : Kept s s.spendTick :=
  ⟨rfl, rfl, rfl, rfl, rfl, fun _ => VoiceKept.refl _⟩

theorem setFlushing_kept (b : Bool) (s : State) : Kept s (s.setFlushing b) :=
  ⟨rfl, rfl, rfl, rfl, rfl, fun _ => VoiceKept.refl _⟩

theorem runTicks_kept (n : Nat) (s : State) : Kept s (runTicks n s) :=
  runTicks_keeps (Kept s) (fun t h => h.trans (tick_kept t)) (fun t h => h.trans (spendTick_kept t)) n s (.refl s)

theorem flush_kept (s : State) : Kept s (flush s) :=
  (setFlushing_kept true s).trans ((runTicks_kept _ _).trans (setFlushing_kept false _))

theorem synced_kept (s : State) : Kept s s.synced := by
  unfold State.synced
  split
  · exact .refl s
  · exact flush_kept s

theorem runTicks_mem_wf (n : Nat) (s : State) (h : Memory.wf s.mem = true) : Memory.wf (runTicks n s).mem = true :=
  runTicks_keeps (fun t => Memory.wf t.mem = true) tick_mem_wf (fun _ h => h) n s h

theorem flush_mem_wf (s : State) (h : Memory.wf s.mem = true) : Memory.wf (flush s).mem = true :=
  runTicks_mem_wf _ (s.setFlushing true) h

/-- How many frames a flush loop of `n` turns leaves, and what it leaves pending, when they fit. -/
theorem runTicks_room (n : Nat) (s : State) (hf : s.fault = none) (h : s.ring.length + n ≤ s.params.ringCapacity) :
    (runTicks n s).fault = none ∧ (runTicks n s).ring.length = s.ring.length + n ∧
      (runTicks n s).accCycles = s.accCycles - 64 * n := by
  induction n generalizing s with
  | zero => exact ⟨hf, rfl, rfl⟩
  | succ n ih =>
    have ht : (tick s).fault = none := by rw [tick_fault s hf, if_neg (by omega)]
    have hr : (tick s).ring.length = s.ring.length + 1 := by rw [tick_ring, if_pos (by omega), List.length_append]; rfl
    have hp : (tick s).params = s.params := (tick_frame s).params
    have ha : (tick s).accCycles = s.accCycles := (tick_frame s).accCycles
    rw [runTicks_succ n s ht]
    obtain ⟨h1, h2, h3⟩ := ih (tick s).spendTick (by rw [State.spendTick_fault, ht])
      (by rw [State.spendTick_ring, State.spendTick_params, hr, hp]; omega)
    refine ⟨h1, ?_, ?_⟩
    · rw [h2, State.spendTick_ring, hr]; omega
    · rw [h3, State.spendTick_accCycles, ha]; omega

/-- A ready state is not faulted once it has flushed. -/
theorem Ready.synced_fault {s : State} (h : Ready s) : s.synced.fault = none := by
  obtain ⟨hf, hr⟩ := h
  unfold State.synced
  split
  · exact hf
  · rename_i hn
    exact (runTicks_room _ (s.setFlushing true) hf (hr (by simpa using hn))).1

/-! The shape of an answer. -/

theorem portOp_of_fault (op : State → State) (s : State) (h : s.fault ≠ none) : portOp op s = .next s.refuse := by
  have hs : s.fault.isSome = true := Option.isSome_iff_ne_none.mpr h
  rw [portOp, if_pos hs]

theorem portOp_of_ok (op : State → State) (s : State) (h : s.fault = none) : portOp op s = .next (op s) := by
  have hs : ¬ s.fault.isSome = true := by simp [h]
  rw [portOp, if_neg hs]

theorem afterFlush_of_ok (finish : State → State) (t : State) (h : t.fault = none) : afterFlush finish t = finish t := by
  have hs : ¬ t.fault.isSome = true := by simp [h]
  rw [afterFlush, if_neg hs]

theorem afterFlush_of_fault (finish : State → State) (t : State) (h : t.fault ≠ none) :
    afterFlush finish t = t.answer .nothing := by
  have hs : t.fault.isSome = true := Option.isSome_iff_ne_none.mpr h
  rw [afterFlush, if_pos hs]

theorem portWrite_of_ready (effect : State → State) (s : State) (h : Ready s) :
    portWrite effect s = .next ((effect s.synced).answer .nothing) := by
  rw [portWrite, portOp_of_ok _ _ h.1, afterFlush_of_ok _ _ h.synced_fault]

theorem portRead_of_ready (value : State → Byte) (s : State) (h : Ready s) :
    portRead value s = .next (s.synced.answer (.byte (value s.synced))) := by
  rw [portRead, portOp_of_ok _ _ h.1, afterFlush_of_ok _ _ h.synced_fault]

end Sys2Proof.Machine
end

