-- ==== Sys2Proof/Laws/Exec.lean ====
section
/-! SUPPORT. What `exec` can answer, said once: whole-machine claims go by these cases and not by the arms. -/

namespace Sys2Proof.Machine

/-- What an operation that flushes first does after its flush; LOAD has its own shape. -/
def accessEffect : Instr → Option (State → State)
  | .rdVoll v => some fun t => t.answer (.byte (readVoll v t))
  | .rdVolr v => some fun t => t.answer (.byte (readVolr v t))
  | .rdPitchl v => some fun t => t.answer (.byte (readPitchl v t))
  | .rdPitchh v => some fun t => t.answer (.byte (readPitchh v t))
  | .rdSrcn v => some fun t => t.answer (.byte (readSrcn v t))
  | .rdAdsr1 v => some fun t => t.answer (.byte (readAdsr1 v t))
  | .rdAdsr2 v => some fun t => t.answer (.byte (readAdsr2 v t))
  | .rdGain v => some fun t => t.answer (.byte (readGain v t))
  | .rdEnvx v => some fun t => t.answer (.byte (readEnvx v t))
  | .rdOutx v => some fun t => t.answer (.byte (readOutx v t))
  | .rdUnusedXA _ => some fun t => t.answer (.byte (readZero t))
  | .rdUnusedXB _ => some fun t => t.answer (.byte (readZero t))
  | .rdUnusedXE _ => some fun t => t.answer (.byte (readZero t))
  | .rdFir v => some fun t => t.answer (.byte (readFir v t))
  | .rdMvoll => some fun t => t.answer (.byte (readMvoll t))
  | .rdMvolr => some fun t => t.answer (.byte (readMvolr t))
  | .rdEvoll => some fun t => t.answer (.byte (readEvoll t))
  | .rdEvolr => some fun t => t.answer (.byte (readEvolr t))
  | .rdKon => some fun t => t.answer (.byte (readKon t))
  | .rdKoff => some fun t => t.answer (.byte (readKoff t))
  | .rdFlg => some fun t => t.answer (.byte (readFlg t))
  | .rdEndx => some fun t => t.answer (.byte (readEndx t))
  | .rdEfb => some fun t => t.answer (.byte (readEfb t))
  | .rdUnused1D => some fun t => t.answer (.byte (readZero t))
  | .rdPmon => some fun t => t.answer (.byte (readPmon t))
  | .rdNon => some fun t => t.answer (.byte (readNon t))
  | .rdEon => some fun t => t.answer (.byte (readEon t))
  | .rdDir => some fun t => t.answer (.byte (readDir t))
  | .rdEsa => some fun t => t.answer (.byte (readEsa t))
  | .rdEdl => some fun t => t.answer (.byte (readEdl t))
  | .rdHigh _ => none
  | .wrVoll v d => some fun t => (writeVoll v d t).answer .nothing
  | .wrVolr v d => some fun t => (writeVolr v d t).answer .nothing
  | .wrPitchl v d => some fun t => (writePitchl v d t).answer .nothing
  | .wrPitchh v d => some fun t => (writePitchh v d t).answer .nothing
  | .wrSrcn v d => some fun t => (writeSrcn v d t).answer .nothing
  | .wrAdsr1 v d => some fun t => (writeAdsr1 v d t).answer .nothing
  | .wrAdsr2 v d => some fun t => (writeAdsr2 v d t).answer .nothing
  | .wrGain v d => some fun t => (writeGain v d t).answer .nothing
  | .wrEnvx _ _ => some fun t => (ignoreWrite t).answer .nothing
  | .wrOutx _ _ => some fun t => (ignoreWrite t).answer .nothing
  | .wrUnusedXA _ _ => some fun t => (ignoreWrite t).answer .nothing
  | .wrUnusedXB _ _ => some fun t => (ignoreWrite t).answer .nothing
  | .wrUnusedXE _ _ => some fun t => (ignoreWrite t).answer .nothing
  | .wrFir v d => some fun t => (writeFir v d t).answer .nothing
  | .wrMvoll d => some fun t => (writeMvoll d t).answer .nothing
  | .wrMvolr d => some fun t => (writeMvolr d t).answer .nothing
  | .wrEvoll d => some fun t => (writeEvoll d t).answer .nothing
  | .wrEvolr d => some fun t => (writeEvolr d t).answer .nothing
  | .wrKon d => some fun t => (writeKon d t).answer .nothing
  | .wrKoff d => some fun t => (writeKoff d t).answer .nothing
  | .wrFlg d => some fun t => (writeFlg d t).answer .nothing
  | .wrEndx _ => some fun t => (writeEndx t).answer .nothing
  | .wrEfb d => some fun t => (writeEfb d t).answer .nothing
  | .wrUnused1D _ => some fun t => (ignoreWrite t).answer .nothing
  | .wrPmon d => some fun t => (writePmon d t).answer .nothing
  | .wrNon d => some fun t => (writeNon d t).answer .nothing
  | .wrEon d => some fun t => (writeEon d t).answer .nothing
  | .wrDir d => some fun t => (writeDir d t).answer .nothing
  | .wrEsa d => some fun t => (writeEsa d t).answer .nothing
  | .wrEdl d => some fun t => (writeEdl d t).answer .nothing
  | .wrHigh _ _ => none
  | .cyc _ => none
  | .flush => none
  | .load _ => none
  | .pull _ => none
  | .vctl v solo mute => some fun t => (setControls v solo mute t).answer .nothing
  | .reset => none
  | .reserved => none

/-- An operation with an `accessEffect` is that effect after the flush (45_register_port.md R260, R261; 46_host_port.md
R356). -/
theorem exec_access (i : Instr) (s : State) (f : State → State) (h : accessEffect i = some f) :
    exec i s = portOp (fun s => afterFlush f s.synced) s := by
  cases i <;> first | cases h; rfl | cases h

/-- Everything a port operation can do. -/
theorem exec_cases (i : Instr) (s t : State) (h : exec i s = .next t) :
    (i = .reset ∧ t = s.resetCore) ∨ (i = .reserved ∧ t = s.refuse) ∨ (s.fault ≠ none ∧ i ≠ .reset ∧ t = s.refuse) ∨
    (s.fault = none ∧
      ((∃ f, accessEffect i = some f ∧ t = afterFlush f s.synced) ∨
       (∃ n, i = .cyc n ∧ t = (s.addCycles n.toNat).answer .nothing) ∨
       (i = .flush ∧ t = (flush s).answer .nothing) ∨
       (∃ data, i = .load data ∧ t = loadWrites data loadOrder s) ∨
       (∃ n, i = .pull n ∧ t = pullFrames n.toNat s) ∨
       ((∃ a, i = .rdHigh a) ∧ t = s.answer (.byte 0x00)) ∨
       ((∃ a d, i = .wrHigh a d) ∧ t = s.answer .nothing))) := by
  have port (op : State → State) (e : exec i s = portOp op s) (hr : i ≠ .reset) :
      (s.fault ≠ none ∧ i ≠ .reset ∧ t = s.refuse) ∨ (s.fault = none ∧ t = op s) := by
    rw [e] at h
    by_cases hf : s.fault = none
    · rw [portOp_of_ok op s hf] at h; cases h; exact .inr ⟨hf, rfl⟩
    · rw [portOp_of_fault op s hf] at h; cases h; exact .inl ⟨hf, hr, rfl⟩
  have access (f : State → State) (ha : accessEffect i = some f) (hr : i ≠ .reset) :
      (s.fault ≠ none ∧ i ≠ .reset ∧ t = s.refuse) ∨ (s.fault = none ∧ ∃ f, accessEffect i = some f ∧ t = afterFlush f s.synced) := by
    rcases port _ (exec_access i s f ha) hr with p | ⟨hf, p⟩
    · exact .inl p
    · exact .inr ⟨hf, f, ha, p⟩
  by_cases hi : accessEffect i = none
  · cases i <;> first
      | exact absurd hi (Option.some_ne_none _)
      | (cases h; exact .inl ⟨rfl, rfl⟩)
      | (cases h; exact .inr (.inl ⟨rfl, rfl⟩))
      | skip
    case rdHigh a =>
      rcases port (fun s => s.answer (.byte 0x00)) rfl nofun with p | ⟨hf, p⟩
      · exact .inr (.inr (.inl p))
      · exact .inr (.inr (.inr ⟨hf, .inr (.inr (.inr (.inr (.inr (.inl ⟨⟨a, rfl⟩, p⟩)))))⟩))
    case wrHigh a d =>
      rcases port (fun s => s.answer .nothing) rfl nofun with p | ⟨hf, p⟩
      · exact .inr (.inr (.inl p))
      · exact .inr (.inr (.inr ⟨hf, .inr (.inr (.inr (.inr (.inr (.inr ⟨⟨a, d, rfl⟩, p⟩)))))⟩))
    case cyc n =>
      rcases port (fun s => (s.addCycles n.toNat).answer .nothing) rfl nofun with p | ⟨hf, p⟩
      · exact .inr (.inr (.inl p))
      · exact .inr (.inr (.inr ⟨hf, .inr (.inl ⟨n, rfl, p⟩)⟩))
    case flush =>
      rcases port (fun s => (flush s).answer .nothing) rfl nofun with p | ⟨hf, p⟩
      · exact .inr (.inr (.inl p))
      · exact .inr (.inr (.inr ⟨hf, .inr (.inr (.inl ⟨rfl, p⟩))⟩))
    case load data =>
      rcases port (loadWrites data loadOrder) rfl nofun with p | ⟨hf, p⟩
      · exact .inr (.inr (.inl p))
      · exact .inr (.inr (.inr ⟨hf, .inr (.inr (.inr (.inl ⟨data, rfl, p⟩)))⟩))
    case pull n =>
      rcases port (pullFrames n.toNat) rfl nofun with p | ⟨hf, p⟩
      · exact .inr (.inr (.inl p))
      · exact .inr (.inr (.inr ⟨hf, .inr (.inr (.inr (.inr (.inl ⟨n, rfl, p⟩))))⟩))
  · obtain ⟨f, hf⟩ := Option.ne_none_iff_exists'.mp hi
    have hr : i ≠ .reset := by rintro rfl; exact hi rfl
    rcases access f hf hr with p | ⟨h0, p⟩
    · exact .inr (.inr (.inl p))
    · exact .inr (.inr (.inr ⟨h0, .inl p⟩))

end Sys2Proof.Machine
end

