-- ==== Sys2Proof/Laws/PerInstr.lean ====
section
/-! SUPPORT. For every instruction, by constructor: the word `encode` gives it is an instance of its own row of
spec/opcode_table.json (30_encoding.md R106, R107). -/

namespace Sys2Proof

/-- The datum of a write touches no bit of a row's mask (30_encoding.md R106). -/
theorem writeWord_and (a d : Byte) : (writeWord a d).word &&& 0xF000FF00#32 = (writeWord a 0#8).word := by
  have h : ∀ k : Fin 32, (0xF000FF00#32).getLsbD k.val = decide (8 ≤ k.val ∧ (k.val < 16 ∨ 28 ≤ k.val)) := by decide
  apply BitVec.eq_of_getLsbD_eq
  intro k hk
  simp only [writeWord, bareWord, BitVec.getLsbD_and, BitVec.getLsbD_append, h ⟨k, hk⟩]
  by_cases c : k < 8
  · simp [c, show ¬ 8 ≤ k by omega]; exact fun hh => absurd hh (by omega)
  · by_cases c' : k < 16
    · simp [c, c', show k - 8 < 8 by omega, show 8 ≤ k by omega]
    · by_cases c'' : k < 28
      · simp [c, c'']; exact fun hh => absurd hh c'
      · simp [c'', show 8 ≤ k by omega, show 28 ≤ k by omega]

/-- A row of writes matches whatever the datum, if it matches the word with datum 0. -/
theorem TableRow.matches_write (a d : Byte) (r : TableRow) (h : 0xF000FF00#32 &&& r.mask = r.mask)
    (h0 : r.matches (writeWord a 0#8).word = true) : r.matches (writeWord a d).word = true := by
  have e (d : Byte) : (writeWord a d).word &&& r.mask = (writeWord a 0#8).word &&& r.mask := by
    rw [← h, ← BitVec.and_assoc, ← BitVec.and_assoc, writeWord_and, writeWord_and]
  rw [TableRow.matches, e d]; exact h0

/-- A count touches no bit of the operation code (30_encoding.md R106). -/
theorem countWord_and (op : BitVec 4) (n : BitVec 28) : (countWord op n).word &&& 0xF0000000#32 = (countWord op 0#28).word := by
  have h : ∀ k : Fin 32, (0xF0000000#32).getLsbD k.val = decide (28 ≤ k.val) := by decide
  apply BitVec.eq_of_getLsbD_eq
  intro k hk
  simp only [countWord, bareWord, BitVec.getLsbD_and, BitVec.getLsbD_append, h ⟨k, hk⟩]
  by_cases c : k < 28
  · simp [c]
  · simp [c, show 28 ≤ k by omega]

/-- A voice's write address, for a row whose mask reads the select (30_encoding.md R91). -/
theorem TableRow.matches_voiceWrite (r : TableRow) (x : BitVec 4) (h : 0xF000FF00#32 &&& r.mask = r.mask)
    (h0 : ∀ v : VoiceId, r.matches (writeWord (registerAddress v x) 0#8).word = true) (v : VoiceId) (d : Byte) :
    r.matches (writeWord (registerAddress v x) d).word = true := r.matches_write _ d h (h0 v)

/-- An address above 0x7F matches the row RD_HIGH (30_encoding.md R107). -/
theorem readRow_high : ∀ a : Byte, a.msb = true → (TableRow.mk 0x00008000 0xF0008000).matches (readWord a).word = true := by
  decide

/-- An address above 0x7F matches the row WR_HIGH (30_encoding.md R107). -/
theorem writeRow_high : ∀ a : Byte, a.msb = true → (TableRow.mk 0x10008000 0xF0008000).matches (writeWord a 0#8).word = true := by
  decide

/-- Every control word matches the row VCTL (30_encoding.md R106). -/
theorem controlRow : ∀ (v : VoiceId) (solo mute : Bool),
    (TableRow.mk 0x60000000 0xF0000000).matches (controlWord v solo mute).word = true := by decide

end Sys2Proof

namespace Sys2Proof.Laws.TableRow

/-- A well-formed instruction's word matches its row. -/
def Statement (i : Instr) : Prop :=
  i.wellFormed = true → ∃ r, opcodeTable[i.row]? = some r ∧ r.matches (encode i).word = true

theorem rdVoll (v : VoiceId) : Statement (.rdVoll v) := fun _ => ⟨_, rfl, by revert v; decide⟩

theorem rdVolr (v : VoiceId) : Statement (.rdVolr v) := fun _ => ⟨_, rfl, by revert v; decide⟩

theorem rdPitchl (v : VoiceId) : Statement (.rdPitchl v) := fun _ => ⟨_, rfl, by revert v; decide⟩

theorem rdPitchh (v : VoiceId) : Statement (.rdPitchh v) := fun _ => ⟨_, rfl, by revert v; decide⟩

theorem rdSrcn (v : VoiceId) : Statement (.rdSrcn v) := fun _ => ⟨_, rfl, by revert v; decide⟩

theorem rdAdsr1 (v : VoiceId) : Statement (.rdAdsr1 v) := fun _ => ⟨_, rfl, by revert v; decide⟩

theorem rdAdsr2 (v : VoiceId) : Statement (.rdAdsr2 v) := fun _ => ⟨_, rfl, by revert v; decide⟩

theorem rdGain (v : VoiceId) : Statement (.rdGain v) := fun _ => ⟨_, rfl, by revert v; decide⟩

theorem rdEnvx (v : VoiceId) : Statement (.rdEnvx v) := fun _ => ⟨_, rfl, by revert v; decide⟩

theorem rdOutx (v : VoiceId) : Statement (.rdOutx v) := fun _ => ⟨_, rfl, by revert v; decide⟩

theorem rdUnusedXA (v : VoiceId) : Statement (.rdUnusedXA v) := fun _ => ⟨_, rfl, by revert v; decide⟩

theorem rdUnusedXB (v : VoiceId) : Statement (.rdUnusedXB v) := fun _ => ⟨_, rfl, by revert v; decide⟩

theorem rdUnusedXE (v : VoiceId) : Statement (.rdUnusedXE v) := fun _ => ⟨_, rfl, by revert v; decide⟩

theorem rdFir (v : VoiceId) : Statement (.rdFir v) := fun _ => ⟨_, rfl, by revert v; decide⟩

theorem rdMvoll : Statement .rdMvoll := fun _ => ⟨_, rfl, rfl⟩

theorem rdMvolr : Statement .rdMvolr := fun _ => ⟨_, rfl, rfl⟩

theorem rdEvoll : Statement .rdEvoll := fun _ => ⟨_, rfl, rfl⟩

theorem rdEvolr : Statement .rdEvolr := fun _ => ⟨_, rfl, rfl⟩

theorem rdKon : Statement .rdKon := fun _ => ⟨_, rfl, rfl⟩

theorem rdKoff : Statement .rdKoff := fun _ => ⟨_, rfl, rfl⟩

theorem rdFlg : Statement .rdFlg := fun _ => ⟨_, rfl, rfl⟩

theorem rdEndx : Statement .rdEndx := fun _ => ⟨_, rfl, rfl⟩

theorem rdEfb : Statement .rdEfb := fun _ => ⟨_, rfl, rfl⟩

theorem rdUnused1D : Statement .rdUnused1D := fun _ => ⟨_, rfl, rfl⟩

theorem rdPmon : Statement .rdPmon := fun _ => ⟨_, rfl, rfl⟩

theorem rdNon : Statement .rdNon := fun _ => ⟨_, rfl, rfl⟩

theorem rdEon : Statement .rdEon := fun _ => ⟨_, rfl, rfl⟩

theorem rdDir : Statement .rdDir := fun _ => ⟨_, rfl, rfl⟩

theorem rdEsa : Statement .rdEsa := fun _ => ⟨_, rfl, rfl⟩

theorem rdEdl : Statement .rdEdl := fun _ => ⟨_, rfl, rfl⟩

theorem rdHigh (a : Byte) : Statement (.rdHigh a) := fun h => ⟨_, rfl, readRow_high a h⟩

theorem wrVoll (v : VoiceId) (d : Byte) : Statement (.wrVoll v d) :=
  fun _ => ⟨_, rfl, Sys2Proof.TableRow.matches_voiceWrite _ _ rfl (by decide) v d⟩

theorem wrVolr (v : VoiceId) (d : Byte) : Statement (.wrVolr v d) :=
  fun _ => ⟨_, rfl, Sys2Proof.TableRow.matches_voiceWrite _ _ rfl (by decide) v d⟩

theorem wrPitchl (v : VoiceId) (d : Byte) : Statement (.wrPitchl v d) :=
  fun _ => ⟨_, rfl, Sys2Proof.TableRow.matches_voiceWrite _ _ rfl (by decide) v d⟩

theorem wrPitchh (v : VoiceId) (d : Byte) : Statement (.wrPitchh v d) :=
  fun _ => ⟨_, rfl, Sys2Proof.TableRow.matches_voiceWrite _ _ rfl (by decide) v d⟩

theorem wrSrcn (v : VoiceId) (d : Byte) : Statement (.wrSrcn v d) :=
  fun _ => ⟨_, rfl, Sys2Proof.TableRow.matches_voiceWrite _ _ rfl (by decide) v d⟩

theorem wrAdsr1 (v : VoiceId) (d : Byte) : Statement (.wrAdsr1 v d) :=
  fun _ => ⟨_, rfl, Sys2Proof.TableRow.matches_voiceWrite _ _ rfl (by decide) v d⟩

theorem wrAdsr2 (v : VoiceId) (d : Byte) : Statement (.wrAdsr2 v d) :=
  fun _ => ⟨_, rfl, Sys2Proof.TableRow.matches_voiceWrite _ _ rfl (by decide) v d⟩

theorem wrGain (v : VoiceId) (d : Byte) : Statement (.wrGain v d) :=
  fun _ => ⟨_, rfl, Sys2Proof.TableRow.matches_voiceWrite _ _ rfl (by decide) v d⟩

theorem wrEnvx (v : VoiceId) (d : Byte) : Statement (.wrEnvx v d) :=
  fun _ => ⟨_, rfl, Sys2Proof.TableRow.matches_voiceWrite _ _ rfl (by decide) v d⟩

theorem wrOutx (v : VoiceId) (d : Byte) : Statement (.wrOutx v d) :=
  fun _ => ⟨_, rfl, Sys2Proof.TableRow.matches_voiceWrite _ _ rfl (by decide) v d⟩

theorem wrUnusedXA (v : VoiceId) (d : Byte) : Statement (.wrUnusedXA v d) :=
  fun _ => ⟨_, rfl, Sys2Proof.TableRow.matches_voiceWrite _ _ rfl (by decide) v d⟩

theorem wrUnusedXB (v : VoiceId) (d : Byte) : Statement (.wrUnusedXB v d) :=
  fun _ => ⟨_, rfl, Sys2Proof.TableRow.matches_voiceWrite _ _ rfl (by decide) v d⟩

theorem wrUnusedXE (v : VoiceId) (d : Byte) : Statement (.wrUnusedXE v d) :=
  fun _ => ⟨_, rfl, Sys2Proof.TableRow.matches_voiceWrite _ _ rfl (by decide) v d⟩

theorem wrFir (v : VoiceId) (d : Byte) : Statement (.wrFir v d) :=
  fun _ => ⟨_, rfl, Sys2Proof.TableRow.matches_voiceWrite _ _ rfl (by decide) v d⟩

theorem wrMvoll (d : Byte) : Statement (.wrMvoll d) := fun _ => ⟨_, rfl, Sys2Proof.TableRow.matches_write _ d _ rfl rfl⟩

theorem wrMvolr (d : Byte) : Statement (.wrMvolr d) := fun _ => ⟨_, rfl, Sys2Proof.TableRow.matches_write _ d _ rfl rfl⟩

theorem wrEvoll (d : Byte) : Statement (.wrEvoll d) := fun _ => ⟨_, rfl, Sys2Proof.TableRow.matches_write _ d _ rfl rfl⟩

theorem wrEvolr (d : Byte) : Statement (.wrEvolr d) := fun _ => ⟨_, rfl, Sys2Proof.TableRow.matches_write _ d _ rfl rfl⟩

theorem wrKon (d : Byte) : Statement (.wrKon d) := fun _ => ⟨_, rfl, Sys2Proof.TableRow.matches_write _ d _ rfl rfl⟩

theorem wrKoff (d : Byte) : Statement (.wrKoff d) := fun _ => ⟨_, rfl, Sys2Proof.TableRow.matches_write _ d _ rfl rfl⟩

theorem wrFlg (d : Byte) : Statement (.wrFlg d) := fun _ => ⟨_, rfl, Sys2Proof.TableRow.matches_write _ d _ rfl rfl⟩

theorem wrEndx (d : Byte) : Statement (.wrEndx d) := fun _ => ⟨_, rfl, Sys2Proof.TableRow.matches_write _ d _ rfl rfl⟩

theorem wrEfb (d : Byte) : Statement (.wrEfb d) := fun _ => ⟨_, rfl, Sys2Proof.TableRow.matches_write _ d _ rfl rfl⟩

theorem wrUnused1D (d : Byte) : Statement (.wrUnused1D d) :=
  fun _ => ⟨_, rfl, Sys2Proof.TableRow.matches_write _ d _ rfl rfl⟩

theorem wrPmon (d : Byte) : Statement (.wrPmon d) := fun _ => ⟨_, rfl, Sys2Proof.TableRow.matches_write _ d _ rfl rfl⟩

theorem wrNon (d : Byte) : Statement (.wrNon d) := fun _ => ⟨_, rfl, Sys2Proof.TableRow.matches_write _ d _ rfl rfl⟩

theorem wrEon (d : Byte) : Statement (.wrEon d) := fun _ => ⟨_, rfl, Sys2Proof.TableRow.matches_write _ d _ rfl rfl⟩

theorem wrDir (d : Byte) : Statement (.wrDir d) := fun _ => ⟨_, rfl, Sys2Proof.TableRow.matches_write _ d _ rfl rfl⟩

theorem wrEsa (d : Byte) : Statement (.wrEsa d) := fun _ => ⟨_, rfl, Sys2Proof.TableRow.matches_write _ d _ rfl rfl⟩

theorem wrEdl (d : Byte) : Statement (.wrEdl d) := fun _ => ⟨_, rfl, Sys2Proof.TableRow.matches_write _ d _ rfl rfl⟩

theorem wrHigh (a : Byte) (d : Byte) : Statement (.wrHigh a d) :=
  fun h => ⟨_, rfl, Sys2Proof.TableRow.matches_write a d _ rfl (writeRow_high a h)⟩

theorem cyc (n : BitVec 28) : Statement (.cyc n) := fun _ => ⟨_, rfl, decide_eq_true (countWord_and _ n)⟩

theorem flush : Statement .flush := fun _ => ⟨_, rfl, rfl⟩

theorem load (data : Vector Byte 128) : Statement (.load data) :=
  fun _ => ⟨_, rfl, show Sys2Proof.TableRow.matches _ 0x40000000#32 = true from by decide⟩

theorem pull (n : BitVec 28) : Statement (.pull n) := fun _ => ⟨_, rfl, decide_eq_true (countWord_and _ n)⟩

theorem vctl (v : VoiceId) (solo mute : Bool) : Statement (.vctl v solo mute) :=
  fun _ => ⟨_, rfl, controlRow v solo mute⟩

theorem reset : Statement .reset := fun _ => ⟨_, rfl, rfl⟩

theorem reserved : Statement .reserved := fun _ => ⟨_, rfl, rfl⟩

end Sys2Proof.Laws.TableRow
end

