-- ==== Sys2Proof/Laws/Registers.lean ====
section
/-! SUPPORT. What a register write can do, said once: it writes the voices and the register bytes, nothing else; and LOAD as
the writes of its snapshot. -/

namespace Sys2Proof.Machine

/-- `t` is `s` but for its voices and its register bytes. -/
structure WriteFrame (s t : State) : Prop where
  noise : t.noise = s.noise
  counter : t.counter = s.counter
  echoPos : t.echoPos = s.echoPos
  echoLen : t.echoLen = s.echoLen
  histL : t.histL = s.histL
  histR : t.histR = s.histR
  ring : t.ring = s.ring
  accCycles : t.accCycles = s.accCycles
  flushing : t.flushing = s.flushing
  ticksTotal : t.ticksTotal = s.ticksTotal
  fault : t.fault = s.fault
  refused : t.refused = s.refused
  mem : t.mem = s.mem
  params : t.params = s.params
  pending : t.pending = s.pending
  response : t.response = s.response
  receiver : t.receiver = s.receiver

theorem WriteFrame.refl (s : State) : WriteFrame s s := by constructor <;> rfl

theorem WriteFrame.trans {s t u : State} (a : WriteFrame s t) (b : WriteFrame t u) : WriteFrame s u where
  noise := b.noise.trans a.noise
  counter := b.counter.trans a.counter
  echoPos := b.echoPos.trans a.echoPos
  echoLen := b.echoLen.trans a.echoLen
  histL := b.histL.trans a.histL
  histR := b.histR.trans a.histR
  ring := b.ring.trans a.ring
  accCycles := b.accCycles.trans a.accCycles
  flushing := b.flushing.trans a.flushing
  ticksTotal := b.ticksTotal.trans a.ticksTotal
  fault := b.fault.trans a.fault
  refused := b.refused.trans a.refused
  mem := b.mem.trans a.mem
  params := b.params.trans a.params
  pending := b.pending.trans a.pending
  response := b.response.trans a.response
  receiver := b.receiver.trans a.receiver

theorem State.setVoice_writeFrame (s : State) (v : VoiceId) (x : Voice) : WriteFrame s (s.setVoice v x) := by
  constructor <;> rfl

theorem State.updateVoice_writeFrame (s : State) (v : VoiceId) (f : Voice → Voice) : WriteFrame s (s.updateVoice v f) :=
  s.setVoice_writeFrame v _

theorem State.setRegs_writeFrame (s : State) (r : Regs) : WriteFrame s { s with regs := r } := by
  constructor <;> rfl

theorem State.forMask_writeFrame (mask : Byte) (f : VoiceId → State → State) (h : ∀ v t, WriteFrame t (f v t)) (s : State) :
    WriteFrame s (s.forMask mask f) := by
  refine foldl_keeps (WriteFrame s) (fun t v => if maskBit mask v then f v t else t) ?_ voiceIds s (.refl s)
  intro t v ht
  split
  · exact ht.trans (h v t)
  · exact ht

theorem State.forVoices_writeFrame (f : VoiceId → State → State) (h : ∀ v t, WriteFrame t (f v t)) (s : State) :
    WriteFrame s (s.forVoices f) :=
  foldl_keeps (WriteFrame s) (fun t v => f v t) (fun t v ht => ht.trans (h v t)) voiceIds s (.refl s)

theorem writeKon_frame (d : Byte) (s : State) : WriteFrame s (writeKon d s) :=
  (s.setRegs_writeFrame _).trans (State.forMask_writeFrame d keyOn (fun v t => t.updateVoice_writeFrame v _) _)

theorem writeKoff_frame (d : Byte) (s : State) : WriteFrame s (writeKoff d s) :=
  (s.setRegs_writeFrame _).trans (State.forMask_writeFrame d keyOff (fun v t => t.updateVoice_writeFrame v _) _)

theorem writeEndx_frame (s : State) : WriteFrame s (writeEndx s) :=
  s.forVoices_writeFrame _ (fun v t => t.updateVoice_writeFrame v _)

theorem writeColumnC_frame (row : VoiceId) (d : Byte) (s : State) : WriteFrame s (writeColumnC row d s) := by
  unfold writeColumnC
  split
  · exact s.setRegs_writeFrame _
  · exact s.setRegs_writeFrame _
  · exact s.setRegs_writeFrame _
  · exact s.setRegs_writeFrame _
  · exact writeKon_frame d s
  · exact writeKoff_frame d s
  · exact s.setRegs_writeFrame _
  · exact writeEndx_frame s

theorem writeColumnD_frame (row : VoiceId) (d : Byte) (s : State) : WriteFrame s (writeColumnD row d s) := by
  unfold writeColumnD
  split
  · exact s.setRegs_writeFrame _
  · exact .refl s
  · exact s.setRegs_writeFrame _
  · exact s.setRegs_writeFrame _
  · exact s.setRegs_writeFrame _
  · exact s.setRegs_writeFrame _
  · exact s.setRegs_writeFrame _
  · exact s.setRegs_writeFrame _

/-- A register write's effect touches the voices and the register bytes only (45_register_port.md R265 to R292). -/
theorem writeEffect_frame (a d : Byte) (s : State) : WriteFrame s (writeEffect a d s) := by
  unfold writeEffect
  extract_lets v x
  have voice : ∀ f : Voice → Voice, WriteFrame s (s.updateVoice v f) := s.updateVoice_writeFrame v
  by_cases h : x = 0x0; · rw [if_pos h]; exact voice _
  rw [if_neg h]; clear h
  by_cases h : x = 0x1; · rw [if_pos h]; exact voice _
  rw [if_neg h]; clear h
  by_cases h : x = 0x2; · rw [if_pos h]; exact voice _
  rw [if_neg h]; clear h
  by_cases h : x = 0x3; · rw [if_pos h]; exact voice _
  rw [if_neg h]; clear h
  by_cases h : x = 0x4; · rw [if_pos h]; exact voice _
  rw [if_neg h]; clear h
  by_cases h : x = 0x5; · rw [if_pos h]; exact voice _
  rw [if_neg h]; clear h
  by_cases h : x = 0x6; · rw [if_pos h]; exact voice _
  rw [if_neg h]; clear h
  by_cases h : x = 0x7; · rw [if_pos h]; exact voice _
  rw [if_neg h]; clear h
  by_cases h : x = 0x8; · rw [if_pos h]; exact .refl s
  rw [if_neg h]; clear h
  by_cases h : x = 0x9; · rw [if_pos h]; exact .refl s
  rw [if_neg h]; clear h
  by_cases h : x = 0xA; · rw [if_pos h]; exact .refl s
  rw [if_neg h]; clear h
  by_cases h : x = 0xB; · rw [if_pos h]; exact .refl s
  rw [if_neg h]; clear h
  by_cases h : x = 0xC; · rw [if_pos h]; exact writeColumnC_frame v d s
  rw [if_neg h]; clear h
  by_cases h : x = 0xD; · rw [if_pos h]; exact writeColumnD_frame v d s
  rw [if_neg h]; clear h
  by_cases h : x = 0xE; · rw [if_pos h]; exact .refl s
  rw [if_neg h]; exact s.setRegs_writeFrame _

/-- A state with no whole tick pending, or a flush in progress, flushes to itself. -/
theorem State.synced_of_quiet (s : State) (h : s.flushing = true ∨ s.accCycles < 64) :
    s.synced = s := by
  unfold State.synced
  split
  · rfl
  · rename_i hn
    have ha : s.accCycles < 64 := h.resolve_left hn
    have e : s.accCycles / 64 = 0 := by omega
    have hf : s.flushing = false := by simpa using hn
    rw [flush, e, runTicks_zero]
    show { s with flushing := false } = s
    rw [← hf]

/-- After a ready state's flush nothing is left to flush. -/
theorem Ready.synced_quiet {s : State} (h : Ready s) : s.synced.flushing = true ∨ s.synced.accCycles < 64 := by
  unfold State.synced
  split
  · rename_i hf; exact .inl hf
  · rename_i hn
    right
    have r := runTicks_room (s.accCycles / 64) (s.setFlushing true) h.1 (h.2 (by simpa using hn))
    have ha : (flush s).accCycles = s.accCycles - 64 * (s.accCycles / 64) := r.2.2
    rw [ha]; omega

/-- With nothing to flush, writes of a list of addresses are their effects in order (46_host_port.md R352: "only the first
write's flush can run ticks"). -/
theorem loadWrites_of_quiet (data : Vector Byte 128) (l : List Nat) (s : State) (hf : s.fault = none)
    (hq : s.flushing = true ∨ s.accCycles < 64) (hr : s.response = .nothing) :
    loadWrites data l s = l.foldl (fun t a => writeEffect (BitVec.ofNat 8 a) (data.toList.getD a 0) t) s := by
  induction l generalizing s with
  | nil => rfl
  | cons a l ih =>
    have w := writeEffect_frame (BitVec.ofNat 8 a) (data.toList.getD a 0) s
    have e : registerWrite (BitVec.ofNat 8 a) (data.toList.getD a 0) s =
        writeEffect (BitVec.ofNat 8 a) (data.toList.getD a 0) s := by
      have hs : s.synced = s := s.synced_of_quiet hq
      have hw : (writeEffect (BitVec.ofNat 8 a) (data.toList.getD a 0) s).response = .nothing := w.response.trans hr
      rw [registerWrite, hs, afterFlush_of_ok _ _ hf, State.answer, ← hw]
    have hft : ¬ (writeEffect (BitVec.ofNat 8 a) (data.toList.getD a 0) s).fault.isSome = true := by
      rw [w.fault, hf]; decide
    rw [List.foldl_cons, loadWrites]
    simp only [e, if_neg hft]
    exact ih _ (w.fault.trans hf) (by rw [w.flushing, w.accCycles]; exact hq) (w.response.trans hr)

/-- From a ready state only the first write of a list flushes. -/
theorem loadWrites_of_ready (data : Vector Byte 128) (a : Nat) (l : List Nat) (s : State) (h : Ready s) :
    loadWrites data (a :: l) s = l.foldl (fun t a => writeEffect (BitVec.ofNat 8 a) (data.toList.getD a 0) t)
      ((writeEffect (BitVec.ofNat 8 a) (data.toList.getD a 0) s.synced).answer .nothing) := by
  have w := writeEffect_frame (BitVec.ofNat 8 a) (data.toList.getD a 0) s.synced
  have hf := h.synced_fault
  have e : registerWrite (BitVec.ofNat 8 a) (data.toList.getD a 0) s =
      (writeEffect (BitVec.ofNat 8 a) (data.toList.getD a 0) s.synced).answer .nothing := afterFlush_of_ok _ _ hf
  have hft : ((writeEffect (BitVec.ofNat 8 a) (data.toList.getD a 0) s.synced).answer .nothing).fault = none :=
    w.fault.trans hf
  have hn : ¬ ((writeEffect (BitVec.ofNat 8 a) (data.toList.getD a 0) s.synced).answer .nothing).fault.isSome = true := by
    rw [hft]; decide
  rw [loadWrites]
  simp only [e, if_neg hn]
  refine loadWrites_of_quiet data l _ hft ?_ rfl
  rw [State.answer_flushing, State.answer_accCycles, w.flushing, w.accCycles]
  exact h.synced_quiet

end Sys2Proof.Machine
end

