-- ==== Sys2Proof/Tests/Slice0.lean ====
section
/-! SUPPORT. The model's own tests. Every expected value is a word written out from spec/30_encoding.md's tables, a vector
of spec/95_test_vectors.md or of a rule's worked example (named at the test), or hand arithmetic from the rule named. -/

namespace Sys2Proof.Tests

-- One kernel evaluation at a time: each takes a thread with its own large stack.
set_option Elab.async false

open Sys2Proof.Machine

/-! ## Well-formedness -/

/-- 30_encoding.md R107: the high rows hold the addresses with bit 7 set. -/
theorem test_wellFormed_refuses_low_address_in_high_rows :
    (Instr.rdHigh 0x7F).wellFormed = false ∧ (Instr.wrHigh 0x00 0x12).wellFormed = false ∧
    (Instr.rdHigh 0x80).wellFormed = true ∧ (Instr.wrHigh 0xFF 0x12).wellFormed = true := by decide

/-! ## Decoding: words written out from 30_encoding.md R91, R92 and R106 -/

/-- What each word decodes to. -/
def decodesTo (words : List (BitVec 32 × Instr)) : Bool := words.all fun x => decide (decode (bareWord x.1) = x.2)

/-- Per-voice column reads, and the FIR column: OP 0, A = 0x10 * v + select in bits 15:8. -/
theorem test_decode_voice_reads : decodesTo
    [(0x00000000, .rdVoll 0), (0x00001100, .rdVolr 1), (0x00002200, .rdPitchl 2), (0x00003300, .rdPitchh 3),
     (0x00004400, .rdSrcn 4), (0x00005500, .rdAdsr1 5), (0x00006600, .rdAdsr2 6), (0x00007700, .rdGain 7),
     (0x00006800, .rdEnvx 6), (0x00005900, .rdOutx 5), (0x00004A00, .rdUnusedXA 4), (0x00003B00, .rdUnusedXB 3),
     (0x00002E00, .rdUnusedXE 2), (0x00007F00, .rdFir 7)] = true := by decide

/-- Global reads: A from the table of R92. -/
theorem test_decode_global_reads : decodesTo
    [(0x00000C00, .rdMvoll), (0x00001C00, .rdMvolr), (0x00002C00, .rdEvoll), (0x00003C00, .rdEvolr),
     (0x00004C00, .rdKon), (0x00005C00, .rdKoff), (0x00006C00, .rdFlg), (0x00007C00, .rdEndx), (0x00000D00, .rdEfb),
     (0x00001D00, .rdUnused1D), (0x00002D00, .rdPmon), (0x00003D00, .rdNon), (0x00004D00, .rdEon), (0x00005D00, .rdDir),
     (0x00006D00, .rdEsa), (0x00007D00, .rdEdl), (0x00008000, .rdHigh 0x80), (0x0000FF00, .rdHigh 0xFF)] = true := by decide

/-- Per-voice column writes, and the FIR column: OP 1, D in bits 7:0. -/
theorem test_decode_voice_writes : decodesTo
    [(0x10007012, .wrVoll 7 0x12), (0x10006134, .wrVolr 6 0x34), (0x10005256, .wrPitchl 5 0x56),
     (0x10004378, .wrPitchh 4 0x78), (0x1000349A, .wrSrcn 3 0x9A), (0x100025BC, .wrAdsr1 2 0xBC),
     (0x100016DE, .wrAdsr2 1 0xDE), (0x100007F0, .wrGain 0 0xF0), (0x10001833, .wrEnvx 1 0x33),
     (0x10002944, .wrOutx 2 0x44), (0x10002A55, .wrUnusedXA 2 0x55), (0x10004B66, .wrUnusedXB 4 0x66),
     (0x10007E77, .wrUnusedXE 7 0x77), (0x10000F88, .wrFir 0 0x88)] = true := by decide

/-- Global writes. -/
theorem test_decode_global_writes : decodesTo
    [(0x10000C01, .wrMvoll 0x01), (0x10001C02, .wrMvolr 0x02), (0x10002C03, .wrEvoll 0x03), (0x10003C04, .wrEvolr 0x04),
     (0x10004C05, .wrKon 0x05), (0x10005C06, .wrKoff 0x06), (0x10006C07, .wrFlg 0x07), (0x10007C08, .wrEndx 0x08),
     (0x10000D09, .wrEfb 0x09), (0x10001D0A, .wrUnused1D 0x0A), (0x10002D0B, .wrPmon 0x0B), (0x10003D0C, .wrNon 0x0C),
     (0x10004D0D, .wrEon 0x0D), (0x10005D0E, .wrDir 0x0E), (0x10006D0F, .wrEsa 0x0F), (0x10007D10, .wrEdl 0x10),
     (0x1000C012, .wrHigh 0xC0 0x12)] = true := by decide

/-- The other operations, and every reserved operation code (R110). Bits that are no field are ignored (R106). -/
theorem test_decode_port_operations : decodesTo
    [(0x20000000, .cyc 0), (0x2FFFFFFF, .cyc 0xFFFFFFF), (0x30000000, .flush), (0x3FFFFFFF, .flush),
     (0x50000014, .pull 20), (0x60000001, .vctl 0 false true), (0x6FFFFFFE, .vctl 7 true false),
     (0x60000303, .vctl 3 true true), (0x70000000, .reset), (0x80000000, .reserved), (0x90000001, .reserved),
     (0xA0000002, .reserved), (0xB0000003, .reserved), (0xC0000004, .reserved), (0xD0000005, .reserved),
     (0xE0000006, .reserved), (0xFFFFFFFF, .reserved), (0x1FFF2A55, .wrUnusedXA 2 0x55)] = true := by decide

/-- 128 distinct bytes beside a word. -/
def ramp : Vector Byte 128 := Vector.ofFn fun k => BitVec.ofNat 8 (k.val + 1)

/-- LOAD (R106): the bytes beside the word are its data. -/
theorem test_decode_load : decode ⟨0x40000000, ramp⟩ = .load ramp ∧ decode ⟨0x4FFFFFFF, ramp⟩ = .load ramp := by
  decide +kernel

/-- A byte stream, least significant byte first (log 12): `WR 0x2A, 0x55`, then a word cut short. -/
theorem test_decode_bytes :
    decodeBytes [0x55, 0x2A, 0x00, 0x10, 0x00] = .ok (.wrUnusedXA 2 0x55, [0x00]) ∧
    decodeBytes [0x00, 0x2A, 0x00] = .error .truncatedWord ∧
    decodeBytes [0x00, 0x00, 0x00, 0x40, 0x01] = .error .truncatedLoadData := ⟨rfl, rfl, rfl⟩

/-- The host's numbering of a table word (bit 0 least significant). -/
theorem test_decode_table_word :
    decodeTableWord 32 0x10002A55 = some (.wrUnusedXA 2 0x55) ∧ decodeTableWord 32 0x80000000 = some .reserved ∧
    decodeTableWord 32 0x40000000 = some (.load (Vector.replicate 128 0)) := by decide +kernel

/-! ## Small states -/

/-- The reset state of a core with a ring of four frames. -/
def core4 : State := { State.reset with params := { Config.params with ringCapacity := 4 } }

/-- The next state's `f`, or none where the machine stops. -/
def after {α : Type} (f : State → α) (i : Instr) (s : State) : Option α :=
  match exec i s with
  | .next t => some (f t)
  | _ => none

/-- A voice whose register bytes are all different. -/
def voice1 : Voice := { Voice.reset with
  regs := ⟨0x10, 0x11, 0x12, 0xFF, 0x14, 0x15, 0x16, 0x17⟩, envLevel := 2047, outEnv := -14946, endx := true }

/-- A core whose register bytes are all different, with voice 1 as `voice1`. -/
def full4 : State := { core4 with
  voices := core4.voices.set 1 voice1
  regs := {
    fir := #v[0x0F, 0x1F, 0x2F, 0x3F, 0x4F, 0x5F, 0x6F, 0x7F]
    mvolL := 0x0C, mvolR := 0x1C, evolL := 0x2C, evolR := 0x3C, flg := 0x6C, efb := 0x0D, pmon := 0x2D, non := 0x3D
    eon := 0x4D, dir := 0x5D, esa := 0x6D, edl := 0xFF, konCache := 0x4C, koffCache := 0x5C } }

/-- A core with a full ring. -/
def fullRing4 : State := { core4 with ring := List.replicate 4 ⟨1, -1⟩ }

/-- The core after H7: faulted, a full ring, 64 cycles pending. -/
def faulted4 : State := { core4 with
  ring := List.replicate 4 ⟨0, 0⟩, accCycles := 64, counter := 30716, ticksTotal := 4, fault := some .ringOverflow }

/-- Memory with program 1's directory entry and blocks (95_test_vectors.md, program 1). -/
def program1Memory : Memory :=
  Memory.writeAll
    (Memory.writeAll (Memory.writeAll [] 0x0200 [0x00, 0x03, 0x09, 0x03])
      0x0300 [0xC0, 0x78, 0x1F, 0, 0, 0, 0, 0, 0])
    0x0309 [0xC3, 0x70, 0, 0, 0, 0, 0, 0, 0]

/-! ## Register port (95_test_vectors.md P1 to P10; 45_register_port.md) -/

/-- R265 to R272, R276: the stored bytes; ENVX 2047 >> 4 and OUTX the high byte of -14946 (0xC59E). -/
theorem test_voice_reads :
    [Instr.rdVoll 1, .rdVolr 1, .rdPitchl 1, .rdPitchh 1, .rdSrcn 1, .rdAdsr1 1, .rdAdsr2 1, .rdGain 1, .rdEnvx 1,
     .rdOutx 1, .rdUnusedXA 1, .rdUnusedXB 1, .rdUnusedXE 1, .rdFir 1].map (fun i => after (·.response) i full4) =
    ([0x10, 0x11, 0x12, 0xFF, 0x14, 0x15, 0x16, 0x17, 0x7F, 0xC5, 0, 0, 0, 0x1F] : List Byte).map (some <| .byte ·) := by
  decide +kernel

/-- R277 to R292, R262; P5, P6, P10's ENDX with voice 1's flag set. -/
theorem test_global_reads :
    [Instr.rdMvoll, .rdMvolr, .rdEvoll, .rdEvolr, .rdKon, .rdKoff, .rdFlg, .rdEndx, .rdEfb, .rdUnused1D, .rdPmon, .rdNon,
     .rdEon, .rdDir, .rdEsa, .rdEdl, .rdHigh 0xC0].map (fun i => after (·.response) i full4) =
    ([0x0C, 0x1C, 0x2C, 0x3C, 0x4C, 0x5C, 0x6C, 0x02, 0x0D, 0, 0x2D, 0x3D, 0x4D, 0x5D, 0x6D, 0xFF, 0] : List Byte).map
      (some <| .byte ·) := by decide +kernel

/-- P8. -/
theorem test_flg_after_reset : after (·.response) .rdFlg core4 = some (.byte 0xE0) := by decide +kernel

/-- P2 and R265 to R272: each write of 0xFF reaches its own byte of voice 1 and no other. -/
theorem test_voice_writes :
    [Instr.wrVoll 1 0xFF, .wrVolr 1 0xFF, .wrPitchl 1 0xFF, .wrPitchh 1 0xFE, .wrSrcn 1 0xFF, .wrAdsr1 1 0xFF,
     .wrAdsr2 1 0xFF, .wrGain 1 0xFF].map (fun i => after (·.voices[1].regs) i full4) =
    ([⟨0xFF, 0x11, 0x12, 0xFF, 0x14, 0x15, 0x16, 0x17⟩, ⟨0x10, 0xFF, 0x12, 0xFF, 0x14, 0x15, 0x16, 0x17⟩,
      ⟨0x10, 0x11, 0xFF, 0xFF, 0x14, 0x15, 0x16, 0x17⟩, ⟨0x10, 0x11, 0x12, 0xFE, 0x14, 0x15, 0x16, 0x17⟩,
      ⟨0x10, 0x11, 0x12, 0xFF, 0xFF, 0x15, 0x16, 0x17⟩, ⟨0x10, 0x11, 0x12, 0xFF, 0x14, 0xFF, 0x16, 0x17⟩,
      ⟨0x10, 0x11, 0x12, 0xFF, 0x14, 0x15, 0xFF, 0x17⟩, ⟨0x10, 0x11, 0x12, 0xFF, 0x14, 0x15, 0x16, 0xFF⟩] :
      List VoiceRegs).map some := by decide +kernel

/-- R269, 42_voice.md R203: only a SRCN write sets the edge flag. -/
theorem test_srcn_write_sets_edge :
    after (·.voices[1].edge) (.wrSrcn 1 0x14) full4 = some true ∧
    after (·.voices[1].edge) (.wrVoll 1 0x14) full4 = some false := by decide +kernel

/-- R277 to R292: each global write reaches its own byte. -/
theorem test_global_writes :
    [after (·.regs.mvolL) (.wrMvoll 0xAA) full4, after (·.regs.mvolR) (.wrMvolr 0xAA) full4,
     after (·.regs.evolL) (.wrEvoll 0xAA) full4, after (·.regs.evolR) (.wrEvolr 0xAA) full4,
     after (·.regs.flg) (.wrFlg 0xAA) full4, after (·.regs.efb) (.wrEfb 0xAA) full4,
     after (·.regs.pmon) (.wrPmon 0xAA) full4, after (·.regs.non) (.wrNon 0xAA) full4,
     after (·.regs.eon) (.wrEon 0xAA) full4, after (·.regs.dir) (.wrDir 0xAA) full4,
     after (·.regs.esa) (.wrEsa 0xAA) full4, after (·.regs.edl) (.wrEdl 0xAA) full4,
     after (·.regs.fir[5]) (.wrFir 5 0xAA) full4] = List.replicate 13 (some 0xAA) := by decide +kernel

/-- P1, P3, P4, P7, R274: the ignored writes leave the whole state as it was (no cycles are pending here). -/
theorem test_ignored_writes :
    [Instr.wrUnusedXA 2 0x55, .wrUnusedXB 2 0x55, .wrUnusedXE 2 0x55, .wrUnused1D 0x77, .wrEnvx 1 0x33, .wrOutx 1 0x33,
     .wrHigh 0xC0 0x12].map (after id · full4) = List.replicate 7 (some full4) := by decide +kernel

/-- P6: the KOFF cache takes the mask, the KON cache stays; voices 0 and 7 enter Release and voice 1 does not. -/
theorem test_koff_write :
    after (fun t => (t.regs.koffCache, t.regs.konCache, voiceIds.map (t.voices[·].envMode))) (.wrKoff 0x81)
      { core4 with voices := Vector.replicate 8 { Voice.reset with envMode := .sustain } } =
    some (0x81, 0x00, [.release, .sustain, .sustain, .sustain, .sustain, .sustain, .sustain, .release]) := by
  decide +kernel

/-- P10: whatever is written, every flag is cleared. -/
theorem test_endx_write :
    after (fun t => voiceIds.map (t.voices[·].endx)) (.wrEndx 0x00)
      { core4 with voices := Vector.replicate 8 { Voice.reset with endx := true } } =
    some (List.replicate 8 false) := by decide +kernel

/-- V12's core at tick 11, with voice 0's decoder in the middle of program 1's second block. -/
def midDecode : State := { core4 with
  mem := program1Memory, ticksTotal := 11, regs := { Regs.reset with dir := 0x02 }
  voices := core4.voices.set 0 { Voice.reset with
    brrAddr := 0x0309, decIndex := 6, decP1 := 30000, decP2 := 30000, phase := 0x123, envLevel := 2031, endx := true
    edge := true, outEnv := 100 } }

/-- V12: the key-on restarts the decoder and the envelope, and touches neither `out_env` nor voice 1. -/
theorem test_kon_write :
    after (fun t => (t.voices[0].brrAddr, t.voices[0].decSamples.toList.take 5, t.voices[0].decIndex, t.voices[0].phase))
      (.wrKon 0x01) midDecode = some (0x0300, [28672, -32768, 4096, -4096, 0], 0, 0) ∧
    after (fun t => (t.voices[0].envMode, t.voices[0].envLevel, t.voices[0].konTick, t.voices[0].endx, t.voices[0].edge))
      (.wrKon 0x01) midDecode = some (.attack, 0, 11, false, false) ∧
    after (fun t => (t.voices[0].outEnv, t.regs.konCache, t.voices[1])) (.wrKon 0x01) midDecode =
      some (100, 0x01, Voice.reset) := by decide +kernel

/-! ## Host port (95_test_vectors.md H1 to H10) -/

/-- H1: the second CYC, and the flush. -/
theorem test_cyc_and_flush :
    after (·.accCycles) (.cyc 100) { core4 with accCycles := 10 } = some 110 ∧
    after (fun t => (t.accCycles, t.ticksTotal, t.ring)) .flush { core4 with accCycles := 110 } =
      some (46, 1, [⟨0, 0⟩]) := by decide +kernel

/-- H2, H3. -/
theorem test_flush_remainder :
    after (fun t => (t.accCycles, t.ticksTotal)) .flush { core4 with accCycles := 200 } = some (8, 3) ∧
    after (fun t => (t.accCycles, t.ticksTotal)) .flush { core4 with accCycles := 63 } = some (63, 0) := by decide +kernel

/-- H4, H5: the oldest frames first; PULL does not flush. -/
theorem test_pull :
    after (fun t => (t.response, t.ring)) (.pull 2) { core4 with ring := [⟨1, 2⟩, ⟨3, 4⟩, ⟨5, 6⟩] } =
      some (.frames [⟨1, 2⟩, ⟨3, 4⟩], [⟨5, 6⟩]) ∧
    after (fun t => (t.response, t.accCycles)) (.pull 5) { core4 with accCycles := 64 } = some (.frames [], 64) := by
  decide +kernel

/-- 46_host_port.md R356, on the voice named and no other. -/
theorem test_vctl :
    after (fun t => voiceIds.map fun v => (t.voices[v].solo, t.voices[v].mute)) (.vctl 6 true false) core4 =
      some [(false, false), (false, false), (false, false), (false, false), (false, false), (false, false), (true, false),
        (false, false)] := by decide +kernel

/-- H6. -/
theorem test_reserved : after id .reserved full4 = some { full4 with refused := true } := by decide +kernel

/-- H7: the fifth tick faults at its push. -/
theorem test_overflow :
    after (fun t => (t.fault, t.accCycles, t.counter, t.ticksTotal, t.ring)) .flush { core4 with accCycles := 320 } =
      some (some .ringOverflow, 64, 30716, 4, List.replicate 4 ⟨0, 0⟩) := by decide +kernel

/-- H8: refused, no value. -/
theorem test_faulted_read_is_refused :
    after id .rdFlg faulted4 = some { faulted4 with refused := true } := by decide +kernel

/-- H9. -/
theorem test_reset_clears_fault : after id .reset { faulted4 with refused := true } = some core4 := by decide +kernel

/-- H10. -/
theorem test_frame_bytes : Frame.bytes ⟨2576, 1298⟩ = [0x10, 0x0A, 0x12, 0x05] := by decide +kernel

/-- 46_host_port.md R352: KON last and with the loaded DIR and SRCN, KOFF not at all, the edge flag of an unkeyed voice
set. The snapshot's byte at address `a` is `a`, but for KON. -/
theorem test_load :
    after (fun t => (t.regs.fir.toList, t.regs.dir, t.regs.konCache, t.regs.koffCache, t.voices[7].regs))
      (.load (Vector.ofFn fun k => if k.val = 0x4C then 0x81 else BitVec.ofNat 8 k.val)) full4 =
      some ([0x0F, 0x1F, 0x2F, 0x3F, 0x4F, 0x5F, 0x6F, 0x7F], 0x5D, 0x81, 0x5C,
        ⟨0x70, 0x71, 0x72, 0x73, 0x74, 0x75, 0x76, 0x77⟩) := by decide +kernel

/-- As `test_load`: which voices it keys on, at the directory of the loaded DIR and SRCN 0x74 (0x5ED0). -/
theorem test_load_keys_on :
    after (fun t => (t.voices[7].brrAddr, voiceIds.map (t.voices[·].envMode), voiceIds.map (t.voices[·].edge)))
      (.load (Vector.ofFn fun k => if k.val = 0x4C then 0x81 else BitVec.ofNat 8 k.val))
      { core4 with mem := Memory.writeAll [] 0x5ED0 [0x34, 0x12, 0x78, 0x56] } =
      some (0x1234, [.attack, .release, .release, .release, .release, .release, .release, .attack],
        [false, true, true, true, true, true, true, false]) := by decide +kernel

/-- The step takes the next host input: an operation, a host memory write, or nothing (logs 1, 2). -/
theorem test_step :
    (match step { core4 with pending := [.op (bareWord 0x20000040), .mem 0 []] } with
      | .next t => some (t.accCycles, t.pending) | _ => none) = some (64, [.mem 0 []]) ∧
    (match step { core4 with pending := [.mem 0xFFFF [0x12, 0x34]] } with
      | .next t => some (t.mem, t.pending) | _ => none) = some ([(0, 0x34), (0xFFFF, 0x12)], []) ∧
    (match step core4 with | .next t => some t | _ => none) = some core4 := by decide +kernel

/-- The host's placement of a table word: the next step runs it. -/
theorem test_withFetchWord :
    (match step (core4.withFetchWord 32 0x10000C7F) with | .next t => some t.regs.mvolL | _ => none) = some 0x7F := by
  decide +kernel

/-! ## BRR decoder (95_test_vectors.md 2.1) -/

/-- The samples, history and flags of a block at 0x0300, decoded with the history (p1, p2). -/
def brr (block : List Byte) (p1 p2 : Sample) : List Sample × Sample × Sample × Bool × Bool :=
  let u := decodeBlock (Memory.writeAll [] 0x0300 block) 0x0300 { Voice.reset with decP1 := p1, decP2 := p2 }
  (u.decSamples.toList, u.decP1, u.decP2, u.decEnd, u.decLoop)

/-- B1, B6, B7, B8: filter 0, rounding, the shift beyond 12, and the flags. -/
theorem test_brr_filter0 :
    brr [0xC0, 0x78, 0x1F, 0, 0, 0, 0, 0, 0] 0 0 =
      ([28672, -32768, 4096, -4096] ++ List.replicate 12 0, 0, 0, false, false) ∧
    brr [0x00, 0x1F, 0xF0, 0, 0, 0, 0, 0, 0] 0 0 = ([0, -2, -2] ++ List.replicate 13 0, 0, 0, false, false) ∧
    brr [0xD0, 0x8F, 0x7F, 0, 0, 0, 0, 0, 0] 0 0 =
      ([-4096, -4096, 0, -4096] ++ List.replicate 12 0, 0, 0, false, false) ∧
    brr [0xF3, 0x80, 0, 0, 0, 0, 0, 0, 0] 0 0 = ([-4096] ++ List.replicate 15 0, 0, 0, true, true) := by decide +kernel

/-- B2, B9: filter 1, and the doubling's wrap. -/
theorem test_brr_filter1 :
    brr [0xB4, 0x11, 0x11, 0x11, 0x11, 0, 0, 0, 0] 0 0 =
      ([2048, 3968, 5768, 7454, 9036, 10518, 11908, 13210, 12384, 11610, 10884, 10202, 9564, 8966, 8404, 7878],
        7878, 8404, false, false) ∧
    brr [0xC4, 0x70, 0, 0, 0, 0, 0, 0, 0] 30000 30000 =
      ([-8740, -8194, -7682, -7202, -6752, -6330, -5936, -5566, -5220, -4894, -4590, -4304, -4036, -3784, -3548, -3328],
        -3328, -3548, false, false) := by decide +kernel

/-- B4, B5. -/
theorem test_brr_filters_2_and_3 :
    brr [0x08, 0, 0, 0, 0, 0, 0, 0, 0] 1000 500 =
      ([1436, 1798, 2078, 2274, 2384, 2412, 2360, 2236, 2048, 1806, 1522, 1206, 870, 526, 186, -140], -140, 186, false,
        false) ∧
    brr [0x0C, 0, 0, 0, 0, 0, 0, 0, 0] 1000 500 =
      ([1388, 1680, 1890, 2030, 2110, 2140, 2128, 2082, 2010, 1918, 1812, 1694, 1568, 1438, 1308, 1180], 1180, 1308, false,
        false) := by decide +kernel

/-- B10: the clamp, then the wrap to 0. -/
theorem test_brr_clamp_then_wrap :
    brr [0x0C, 0, 0, 0, 0, 0, 0, 0, 0] (-32768) 32766 =
      ([0, 26624, -17696, 12106, -29406, 2858, 29026, -15704, 13732, -28104, 3878, 29802, -15138, 14118, -27870, 3984],
        3984, -27870, false, false) := by decide +kernel

/-! ## Envelope (95_test_vectors.md 2.2) -/

/-- A voice with these envelope registers, at this mode, level and hidden value. -/
def envVoice (adsr1 adsr2 gain : Byte) (mode : EnvMode) (level : Nat) (hidden : Int) : Voice :=
  { Voice.reset with
    regs := { VoiceRegs.reset with adsr1 := adsr1, adsr2 := adsr2, gain := gain }
    envMode := mode, envLevel := level, envHidden := hidden }

/-- (level, mode, hidden) after one step. -/
def envStep (counter : Nat) (v : Voice) : Nat × EnvMode × Int :=
  let u := envTick counter v
  (u.envLevel, u.envMode, u.envHidden)

/-- E1's first three steps, and E2's move to Sustain at a rate that never fires. -/
theorem test_env_adsr :
    envStep 0 (envVoice 0xFF 0x9F 0 .attack 0 0) = (1024, .attack, 1024) ∧
    envStep 30719 (envVoice 0xFF 0x9F 0 .attack 1024 1024) = (2047, .decay, 2048) ∧
    envStep 30718 (envVoice 0xFF 0x9F 0 .decay 2047 2048) = (2039, .decay, 2039) ∧
    envStep 30718 (envVoice 0x8F 0xE0 0 .decay 2047 2048) = (2047, .sustain, 2039) := by decide +kernel

/-- E3: rate 29 fires first on the third tick. -/
theorem test_env_attack_rate :
    [0, 30719, 30718, 30717].map (fun c => (envStep c (envVoice 0x8E 0 0 .attack 0 0)).1) = [0, 0, 32, 0] := by
  decide +kernel

/-- E4 to E8: direct, linear decrease to 0, exponential decrease, linear increase over the top, and the bent line. -/
theorem test_env_gain :
    envStep 0 (envVoice 0 0 0x7F .attack 0 0) = (2032, .attack, 2032) ∧
    envStep 0 (envVoice 0 0 0x9F .sustain 4 4) = (0, .sustain, -28) ∧
    envStep 0 (envVoice 0 0 0xBF .sustain 2047 2047) = (2039, .sustain, 2039) ∧
    envStep 0 (envVoice 0 0 0xDF .attack 2016 2016) = (2047, .decay, 2048) ∧
    envStep 0 (envVoice 0 0 0xFF .sustain 0x5F0 0x5F0) = (1552, .sustain, 1552) ∧
    envStep 0 (envVoice 0 0 0xFF .sustain 1552 1552) = (1560, .sustain, 1560) := by decide +kernel

/-- E9, E10: Release whatever the counter, and rate 0. -/
theorem test_env_release_and_rate0 :
    envStep 5 (envVoice 0xFF 0xFF 0xFF .release 20 0) = (12, .release, 0) ∧
    envStep 5 (envVoice 0xFF 0xFF 0xFF .release 4 0) = (0, .release, 0) ∧
    envStep 0 (envVoice 0 0 0x80 .sustain 500 500) = (500, .sustain, 468) := by decide +kernel

/-! ## Voice (95_test_vectors.md 2.3) -/

/-- V1 to V9 at phases 0x000, 0x800, 0xFF0 and 0xFFF. -/
theorem test_gaussian :
    ([⟨1000, 1000, 1000, 1000⟩, ⟨0, 0, 0, 10000⟩, ⟨0, 0, 10000, 0⟩, ⟨0, 10000, 0, 0⟩, ⟨10000, 0, 0, 0⟩,
      ⟨32767, 32767, 32767, 32767⟩, ⟨-32768, -32768, -32768, -32768⟩, ⟨32767, 32767, 32767, 0⟩, ⟨-1, -1, -1, -1⟩] :
      List Window).map (fun w => [0x000, 0x800, 0xFF0, 0xFFF].map (interpolateGaussian .standard w)) =
    [[998, 998, 998, 998], [0, 282, 1806, 1806], [1826, 4730, 6372, 6372], [6372, 4710, 1826, 1826], [1806, 272, 0, 0],
     [-32756, 32764, 32766, 32766], [32752, -32768, -32768, -32768], [-32756, 31836, 26862, 26862],
     [-4, -4, -4, -4]] := by decide +kernel

/-- V10a to V10f for voice 1, and voice 0, which has no previous voice (R183). -/
theorem test_pitch_modulation :
    let v (h l : Byte) : Voice := { Voice.reset with regs := { VoiceRegs.reset with pitchH := h, pitchL := l } }
    [effectivePitch 0x02 1 (v 0x10 0x00) (-32768), effectivePitch 0x02 1 (v 0x10 0x00) 32767,
     effectivePitch 0x02 1 (v 0x3F 0xFF) 32767, effectivePitch 0x02 1 (v 0x10 0x00) 31,
     effectivePitch 0x02 1 (v 0x10 0x00) (-1), effectivePitch 0x02 1 (v 0x08 0x00) 16384,
     effectivePitch 0xFF 0 (v 0x10 0x00) (-1), effectivePitch 0xFD 1 (v 0xD0 0x00) (-1)] =
    [0, 8188, 16383, 4096, 4092, 3072, 4096, 4096] := by decide +kernel

/-- The envelope scaling, volume and noise examples of section 2.3. -/
theorem test_scaling :
    [envelopeScale (-1) 2047, envelopeScale 32767 2047, envelopeScale (-32768) 2047, envelopeScale 1000 1024,
     envelopeScale 1 2047, envelopeScale (-32768) 1] = [-2, 32750, -32752, 500, 0, -16] ∧
    [volumeScale (-32752) 0x80, volumeScale 32750 0x7F, volumeScale (-2) 0x01, volumeScale 1000 0xC0] =
      [32752, 32494, -1, -500] ∧
    [noiseSample 0x2000, noiseSample 0x4001] = [16384, -32766] := by decide +kernel

/-- Voice 0 of R206's worked trace before its tick t2, with the window the two ticks before left. -/
def traceVoice : Voice := { Voice.reset with
  regs := ⟨0x7F, 0x40, 0x00, 0x10, 0x00, 0x8F, 0xE0, 0x00⟩
  envLevel := 2047, envMode := .decay, envHidden := 2048, brrAddr := 0x0200, decIndex := 2
  decSamples := fixLength 16 0 [28672, -32768, 4096, -4096], window := ⟨0, 0, 28672, -32768⟩ }

/-- 42_voice.md R206, t2: (raw, envd, level, mode, l, r) = (5236, 5232, 2047, Sustain, 5191, 2616). -/
theorem test_worked_trace :
    let out := renderVoice { core4 with counter := 30718, voices := core4.voices.set 0 traceVoice } 0 0 false
    (out.voice.lastRaw, out.voice.outEnv, out.voice.envLevel, out.voice.envMode, out.l, out.r, out.hOut) =
      (5236, 5232, 2047, .sustain, 5191, 2616, 5236) := by decide +kernel

/-- 42_voice.md R192: the block after 0xFFFB is at 0x0004. -/
theorem test_block_address_wraps : (sequentialBlock { Voice.reset with brrAddr := 0xFFFB }).brrAddr = 0x0004 := by decide

/-- 42_voice.md R190, R191 by hand: phase 0xFFF, pitch 0x3001 and 14 samples popped: samples 14 and 15 (15, 16), then the
first two of program 1's second block (28672, 0), read nine bytes on from 0x0300; the phase ends at 0. -/
theorem test_advance_across_blocks :
    let u := advance program1Memory 0x02 0x3001 { Voice.reset with
      phase := 0xFFF, brrAddr := 0x0300, decIndex := 14, window := ⟨1, 2, 3, 4⟩
      decSamples := Vector.ofFn fun k => (k.val : Sample) + 1 }
    (u.window, u.decIndex, u.phase, u.brrAddr, u.decEnd) = (⟨15, 16, 28672, 0⟩, 2, 0, 0x0309, true) := by decide +kernel

/-! ## Echo filter (43_echo_filter.md) -/

/-- One filter step from a history. -/
def fir (coefficients : Vector Byte 8) (hist : Vector Sample 8) (x : Sample) : Sample :=
  firDot coefficients (firShift hist x)

/-- R214: the gain of the newest tap; R217: rounding. -/
theorem test_fir_gain_and_rounding :
    [1000, -1000, 32767, -32768].map (fir #v[0, 0, 0, 0, 0, 0, 0, 0x7F] (Vector.replicate 8 0)) =
      [992, -994, 32510, -32512] ∧
    [100, -100, 127, -129, 1, -1].map (fir #v[0, 0, 0, 0, 0, 0, 0, 0x01] (Vector.replicate 8 0)) =
      [0, -2, 0, -2, 0, -2] := by decide +kernel

/-- R216: step 3 of the all-0x7F example, its steady state, and the all-0x80 example. -/
theorem test_fir_wrap :
    fir (Vector.replicate 8 0x7F) #v[0, 0, 0, 0, 0, 0, 16383, 16383] 32767 = 31994 ∧
    fir (Vector.replicate 8 0x7F) (Vector.replicate 8 16383) 32767 = 32766 ∧
    fir (Vector.replicate 8 0x80) (Vector.replicate 8 (-16384)) (-32768) = -32768 := by decide +kernel

/-- R220: the first output, and the sixth, where the impulse has reached `FIR[2]`. -/
theorem test_fir_low_pass :
    fir #v[0x0C, 0x21, 0x2B, 0x2B, 0x13, 0xFE, 0xF3, 0xF9] (Vector.replicate 8 0) 10000 = -548 ∧
    fir #v[0x0C, 0x21, 0x2B, 0x2B, 0x13, 0xFE, 0xF3, 0xF9] #v[0, 0, 0, 5000, 0, 0, 0, 0] 0 = 3358 := by decide +kernel

/-! ## Tick (95_test_vectors.md 2.5) -/

/-- T1: the counter at tick `t` after 0 is `(30720 - t) % 30720`; rates 2, 3, 5, 29 and 0. -/
theorem test_rates :
    [(2, 1040), (2, 1039), (3, 536), (5, 272), (29, 2), (29, 3), (29, 5), (0, 0), (1, 2048)].map
      (fun x : Nat × Nat => counterFires ((30720 - x.2) % 30720) x.1) =
    [true, false, true, true, true, false, true, false, true] := by decide

/-- T4: the first step from the seed, and the two that feed a bit back. -/
theorem test_noise :
    [noiseNext 0x4000, noiseNext 0x0002, noiseNext 0x4001, noiseNext 0x6000] = [0x2000, 0x4001, 0x6000, 0x3000] := by
  decide

/-- T2, T3 through a whole step: the counter wraps, and at rate 0 the noise word stays. -/
theorem test_counter_wrap_and_rate0 :
    after (fun t => (t.counter, t.noise)) .flush { core4 with accCycles := 64 } = some (30719, 0x4000) := by decide +kernel

/-- T5: every addition saturates in voice order. T6, T7: eight contributions. -/
theorem test_mix :
    ((([30000, 30000, -30000] : List Int).foldl (fun m x => m.add false x x 0) Mix.start).ml,
     ((List.replicate 8 (32752 : Int)).foldl (fun m x => m.add true x (-x) 0) Mix.start).el,
     ((List.replicate 8 (32752 : Int)).foldl (fun m x => m.add true x (-x) 0) Mix.start).er) =
    (2767, 32767, -32768) := by decide +kernel

/-- T8 to T11. -/
theorem test_output_and_echo_samples :
    outputSample (-32768) 0x80 32766 0x7F = -258 ∧ echoSample 32767 32767 0x7F = 32766 ∧
    echoSample (-32768) (-32768) 0x7F = -32768 ∧ echoSample 100 (-32768) 0x80 = -32668 := by decide +kernel

/-- T12: at cursor 0 the length is latched; elsewhere the old one ends the cycle. -/
theorem test_echo_cursor :
    (fun t => (t.echoLen, t.echoPos)) (echoCursor { core4 with regs := { Regs.reset with edl := 0x02 } }) = (0x1000, 4) ∧
    (fun t => (t.echoLen, t.echoPos))
      (echoCursor { core4 with regs := { Regs.reset with edl := 0x02 }, echoPos := 2044, echoLen := 0x800 }) =
      (0x800, 0) := by decide +kernel

/-- Program 1 (95_test_vectors.md): the second tick, whose frame the spec works out by hand. -/
theorem test_program1_second_frame :
    after (·.ring) .flush { core4 with
      mem := program1Memory, accCycles := 64, counter := 30719
      regs := { Regs.reset with dir := 0x02, mvolL := 0x7F, mvolR := 0x7F, flg := 0x20 }
      voices := core4.voices.set 0 { traceVoice with
        regs := ⟨0x7F, 0x40, 0x00, 0x20, 0x00, 0x8F, 0xE0, 0x00⟩
        envLevel := 1024, envMode := .attack, envHidden := 1024, brrAddr := 0x0300 } } =
      some [⟨2576, 1298⟩] := by decide +kernel

/-- Program 2's last tick (95_test_vectors.md): the frame, the bytes written low first, and the new history entry 13185
(0x6702 = 26370 halved, the sample the tick before had left). -/
theorem test_program2_last_tick :
    after (fun t => (t.ring, t.mem, t.histL.toList)) .flush { core4 with
      mem := Memory.writeAll [] 0x4000 [0x02, 0x67, 0x02, 0x67], accCycles := 64
      regs := { Regs.reset with
        mvolL := 0x40, mvolR := 0x40, evolL := 0x40, evolR := 0xC0, efb := 0x40, eon := 0x01, esa := 0x40, flg := 0x00
        fir := #v[0, 0, 0, 0, 0, 0, 0, 0x7F] }
      histL := #v[0, 0, 0, 0, 1298, 6474, 10326, 12237], histR := #v[0, 0, 0, 0, 1298, 6474, 10326, 12237]
      voices := core4.voices.set 0 { Voice.reset with
        regs := ⟨0x40, 0x40, 0x00, 0x10, 0x00, 0x00, 0x00, 0x7F⟩
        envLevel := 2032, envMode := .attack, decIndex := 7, decSamples := Vector.replicate 16 28672
        window := ⟨28672, 28672, 28672, 28672⟩ } } =
      some ([⟨20196, -5966⟩], [(0x4000, 0xAE), (0x4001, 0x6A), (0x4002, 0xAE), (0x4003, 0x6A)],
        [0, 0, 0, 1298, 6474, 10326, 12237, 13185]) := by decide +kernel

/-- 44_dsp_tick.md R242: an attached receiver gets one tuple for each voice. -/
theorem test_visualization :
    after (fun t => t.receiver.map fun l => l.map (·.length)) .flush { core4 with accCycles := 128, receiver := some [] } =
      some (some [8, 8]) := by decide +kernel

/-! ## Witnesses: for each obligation with hypotheses, states and operands that meet them, each clause at a boundary -/

/-- `core4` with FLG 0x00, one tick pending, and room for exactly one frame. -/
def oneTick4 : State := { core4 with
  ring := List.replicate 3 ⟨0, 0⟩, accCycles := 64, regs := { Regs.reset with flg := 0x00 } }

/-- `core4` with two ticks pending and room for one frame. -/
def overflowing4 : State := { core4 with ring := List.replicate 3 ⟨0, 0⟩, accCycles := 128 }

/-- `core4` with `FLG_SILICON_EFFECTS` on and FLG as after reset (bits 7 and 6 set). -/
def silicon4 : State := { core4 with params := { core4.params with flgSiliconEffects := true } }

/-- A voice with `decIndex` of its block's samples popped. -/
def nearEnd (decIndex : Nat) (fin loop : Bool) : Voice := { Voice.reset with
  decIndex := decIndex, decEnd := fin, decLoop := loop, envMode := .attack, phase := 0xFFF }

theorem test_witness_DecodeOfEncodeIsIdentity :
    (Instr.rdHigh 0x80).wellFormed = true ∧ (Instr.wrHigh 0xFF 0xFF).wellFormed = true ∧
    (Instr.cyc 0xFFFFFFF).wellFormed = true := by decide

theorem test_witness_EveryWordHasExactlyOneTableRow : 0 < opcodeTable.length ∧ 68 < opcodeTable.length := by decide

theorem test_witness_StepRunsTheDecodedOperation :
    { core4 with pending := [.op (bareWord 0)] }.pending = .op (bareWord 0) :: [] ∧
    { core4 with pending := [.mem 0xFFFF [1], .op (bareWord 0)] }.pending = .mem 0xFFFF [1] :: [.op (bareWord 0)] ∧
    core4.pending = [] := ⟨rfl, rfl, rfl⟩

/-- Two bytes at the top of memory: each reads back, and address 1 is outside them. -/
theorem test_witness_StepRunsTheDecodedOperation_memory :
    Memory.wf [] = true ∧ (∀ j, 0 < j → j < 2 → (0xFFFF : Addr) + BitVec.ofNat 16 j ≠ 0xFFFF + BitVec.ofNat 16 0) ∧
    ∀ k, k < 2 → (1 : Addr) ≠ 0xFFFF + BitVec.ofNat 16 k := by
  refine ⟨rfl, ?_, ?_⟩ <;> intro n <;> intros <;> interval_cases n <;> decide

/-- A voice at the upper ends of its ranges. -/
def fullVoice : Voice := { Voice.reset with
  envLevel := 2047, envHidden := 3071, decSamples := Vector.replicate 16 32767, decIndex := 15, decP1 := -32768
  decP2 := 32767, window := ⟨32767, -32768, 32767, -32768⟩, phase := 0xFFF, outEnv := 32750, lastRaw := -32768 }

/-- A faulted core at the ends of the invariant's ranges: a full ring, 64 cycles pending, the longest echo at its end. -/
def extreme4 : State := { core4 with
  voices := Vector.replicate 8 fullVoice, noise := 0x7FFF, counter := 30719, echoPos := 0x77FC, echoLen := 0x7800
  histL := Vector.replicate 8 16383, histR := Vector.replicate 8 (-16384), ring := List.replicate 4 ⟨-32768, 32767⟩
  accCycles := 64, fault := some .ringOverflow, mem := [(0, 0x01), (0xFFFF, 0xFF)]
  pending := [.op (bareWord 0x00006C00)] }

theorem test_witness_StepKeepsInvariant :
    Inv extreme4 ∧ step extreme4 = .next { extreme4 with pending := [], refused := true } := by
  refine ⟨?_, rfl⟩
  constructor
  case voices =>
    intro v
    have h : extreme4.voices[v] = fullVoice := by revert v; decide +kernel
    rw [h]
    constructor <;> (try unfold InSample) <;> decide +kernel
  all_goals first | decide +kernel | (unfold InHistory; decide +kernel) | (unfold InSample; decide +kernel)

theorem test_witness_OperationsWriteOnlyEchoFrames :
    exec .flush { core4 with accCycles := 64 } = .next { flush { core4 with accCycles := 64 } with response := .nothing } ∧
    core4.regs.flg.getLsbD 5 = true ∧ Memory.wf oneTick4.mem = true ∧ oneTick4.accCycles / 64 = 1 ∧
    (4 : Addr) ∉ frameBytes (echoFrameAddr (runTicks 0 (oneTick4.setFlushing true))) := by
  refine ⟨rfl, ?_⟩; decide +kernel

theorem test_witness_ticks_with_room :
    oneTick4.fault = none ∧ oneTick4.ring.length < oneTick4.params.ringCapacity ∧ Memory.wf oneTick4.mem = true := by
  decide +kernel

theorem test_witness_EchoWriteStoresSendPlusFeedback :
    oneTick4.regs.flg.getLsbD 5 = false ∧ core4.regs.flg.getLsbD 5 = true ∧
    core4.ring.length < core4.params.ringCapacity ∧ Memory.wf core4.mem = true := by decide +kernel

theorem test_witness_TickAtFullRingFaultsAtItsPush : fullRing4.params.ringCapacity ≤ fullRing4.ring.length := by
  decide +kernel

theorem test_witness_MixSumsSaturate : InSample 32767 ∧ InSample (-32768) ∧ (32767 : Int) < 32768 ∧ (-32769 : Int) < -32768 := by
  unfold InSample; decide

theorem test_witness_RatesFireAtTheirPeriods : (0 : Nat) < 32 ∧ (1 : Nat) ≤ 31 ∧ (31 : Nat) < 32 ∧ (30719 : Nat) < 30720 := by
  decide

theorem test_witness_NoiseStepShiftsAndFeedsBack : (13 : Nat) < 14 ∧ (0x4000 : BitVec 15) ≠ 0 := by decide

theorem test_witness_FlgTopBitsActOnlyWithSiliconEffects :
    core4.params.flgSiliconEffects = false ∧
    (0x20 : Byte).extractLsb' 0 6 = core4.regs.flg.extractLsb' 0 6 ∧ (0x20 : Byte) ≠ core4.regs.flg ∧
    silicon4.params.flgSiliconEffects = true ∧ silicon4.regs.flg.getLsbD 7 = true ∧ silicon4.regs.flg.getLsbD 6 = true ∧
    silicon4.ring.length < silicon4.params.ringCapacity := by decide +kernel

theorem test_witness_VisualizationOnlyReads :
    exec .flush core4 = .next { flush core4 with response := .nothing } ∧
    { oneTick4 with receiver := some [] }.receiver = some [] ∧ oneTick4.ring.length < oneTick4.params.ringCapacity := by
  refine ⟨rfl, rfl, ?_⟩; decide +kernel

theorem test_witness_LaterVoicesDoNotReachEarlierOnes : (0 : VoiceId) < 1 ∧ (6 : VoiceId) < 7 := by decide

theorem test_witness_MuteAndSoloChangeOnlyTheMixes :
    (∀ v : VoiceId, (core4.voices.set 7 { Voice.reset with mute := true, solo := true })[v].unmarked =
      core4.voices[v].unmarked) ∧
    core4.voices.set 7 { Voice.reset with mute := true, solo := true } ≠ core4.voices ∧
    core4.regs.flg.getLsbD 5 = true ∧ (4 : Addr) ∉ frameBytes (echoFrameAddr core4) := by decide +kernel

theorem test_witness_TicksAfterResetAreSilent : (4 : Nat) ≤ 4 ∧ (0 : Nat) < 4 := by decide

theorem test_witness_PitchIsModulatedAndClamped :
    InSample (-32768) ∧ InSample 32767 ∧ ((0 : VoiceId) = 0 ∨ (0xFF : Byte).getLsbD (0 : VoiceId) = false) ∧
    ((7 : VoiceId) = 0 ∨ (0x7F : Byte).getLsbD (7 : VoiceId) = false) ∧
    ((7 : VoiceId) ≠ 0 ∧ (0x80 : Byte).getLsbD (7 : VoiceId) = true) := by unfold InSample; decide

theorem test_witness_RenderScalesByEnvelopeAndVolume :
    (Voice.reset.mute = false ∧ (false = false ∨ Voice.reset.solo = true)) ∧
    (true = true ∧ Voice.reset.solo = false) ∧ { Voice.reset with mute := true }.mute = true ∧
    fullVoice.envLevel ≤ 2047 ∧ InSample (interpolate core4.params fullVoice) := by unfold InSample; decide +kernel

theorem test_witness_GaussianInterpolationIsEvenAndSaturates : core4.params.kernel = .gaussian := rfl

theorem test_witness_GaussTableIsMonotoneAndNormalized : (510 : Nat) < 511 ∧ (255 : Nat) < 256 := by decide

theorem test_witness_PhaseAdvanceMovesSamples :
    { Voice.reset with phase := 0xFFF, decIndex := 11 }.phase < 0x1000 ∧ 0x3FFF ≤ 0x3FFF ∧
    { Voice.reset with phase := 0xFFF, decIndex := 11 }.decIndex + (0xFFF + 0x3FFF) / 0x1000 < 16 := by decide

/-- One crossing and four, the block finished by the last of them (12 + 4) and by the first (15 + 4). -/
theorem test_witness_LastSampleFetchesNextBlock :
    ∀ fin loop : Bool, ∀ x ∈ [(15, 0x0001), (12, 0x3FFF), (15, 0x3FFF)], let v := nearEnd x.1 fin loop
      v.phase < 0x1000 ∧ x.2 ≤ 0x3FFF ∧ v.decIndex < 16 ∧ 16 ≤ v.decIndex + (v.phase + x.2) / 0x1000 ∧ v.decEnd = fin ∧
      v.decLoop = loop := by decide

theorem test_witness_EndxIsStickyUntilCleared :
    exec .flush full4 = .next { flush full4 with response := .nothing } ∧ full4.voices[(1 : VoiceId)].endx = true ∧
    ¬ clearsEndx 1 .flush ∧ ¬ clearsEndx 1 (.wrKon 0xFD) := by
  refine ⟨rfl, ?_⟩
  simp only [clearsEndx]
  decide +kernel

theorem test_witness_EnvelopeStepsByModeAndConfiguration :
    (envVoice 0xFF 0 0 .attack 0 0).envMode ≠ .release ∧ (envVoice 0x8E 0 0 .decay 0 0).regs.adsr1.getLsbD 7 = true ∧
    (envVoice 0x80 0 0 .sustain 0 0).envMode = .sustain ∧ (envVoice 0x7F 0 0x7F .attack 0 0).regs.adsr1.getLsbD 7 = false ∧
    (envVoice 0 0 0x7F .attack 0 0).regs.gain.toNat < 128 ∧ (envVoice 0 0 0x80 .attack 0 0).regs.gain.toNat / 32 = 4 ∧
    (envVoice 0 0 0xBF .attack 0 0).regs.gain.toNat / 32 = 5 ∧ (envVoice 0 0 0xC0 .attack 0 0).regs.gain.toNat / 32 = 6 ∧
    (envVoice 0 0 0xFF .attack 0 0).regs.gain.toNat / 32 = 7 := by decide

/-- Attack at 2015 + 32 = 2047 stays, at 2016 + 32 = 2048 leaves; Decay at 2046 >> 8 = 7 leaves for SL 7 and not for SL 6. -/
theorem test_witness_EnvelopeModesAdvance :
    (envTick 0 (envVoice 0 0 0xDF .attack 2016 0)).envHidden = 0x800 ∧
    (envTick 0 (envVoice 0 0 0xDF .attack 2015 0)).envHidden = 0x7FF ∧
    (envTick 0 (envVoice 0x80 0xE0 0 .decay 2047 0)).envHidden >>> 8 = 7 ∧
    (envTick 0 (envVoice 0x80 0xC0 0 .decay 2047 0)).envHidden >>> 8 ≠ 6 ∧
    (envVoice 0x80 0 0 .sustain 0 0).envMode = .sustain := by decide +kernel

theorem test_witness_EnvelopeStaysInRange : fullVoice.envLevel ≤ 2047 ∧ (envVoice 0 0 0 .attack 2047 0).envMode ≠ .release := by
  decide

theorem test_witness_ReleaseFallsByEightUntilKeyOn :
    { Voice.reset with envLevel := 2047 }.envMode = .release ∧ (List.replicate 256 (0 : Nat)).length = 256 ∧
    (List.replicate 255 (0 : Nat)).length = 255 ∧
    exec .flush core4 = .next { flush core4 with response := .nothing } ∧
    core4.voices[(0 : VoiceId)].envMode = .release ∧ ¬ keysOn 0 (.wrKon 0xFE) ∧ ¬ keysOn 0 .flush := by
  refine ⟨rfl, List.length_replicate, List.length_replicate, rfl, rfl, ?_⟩
  simp only [keysOn]
  decide

theorem test_witness_FlushRunsATickPer64Cycles :
    { core4 with accCycles := 63 }.fault = none ∧ { core4 with accCycles := 63 }.accCycles < 64 ∧
    64 ≤ oneTick4.accCycles ∧ (tick (oneTick4.setFlushing true)).fault = none ∧
    { fullRing4 with accCycles := 64 }.fault = none ∧ 64 ≤ { fullRing4 with accCycles := 64 }.accCycles ∧
    (tick ({ fullRing4 with accCycles := 64 }.setFlushing true)).fault ≠ none := by decide +kernel

theorem test_witness_FlushWithRoomCompletes :
    oneTick4.fault = none ∧ oneTick4.ring.length + oneTick4.accCycles / 64 ≤ oneTick4.params.ringCapacity ∧
    oneTick4.flushing = false := by decide +kernel

theorem test_witness_FlushWithoutRoomOverflows :
    overflowing4.fault = none ∧ overflowing4.ring.length ≤ overflowing4.params.ringCapacity ∧
    overflowing4.params.ringCapacity < overflowing4.ring.length + overflowing4.accCycles / 64 := by decide +kernel

theorem test_witness_AccessEndsWhenItsFlushFaults :
    flushesFirst (.rdVoll 0) = true ∧ flushesFirst (.load ramp) = true ∧ flushesFirst (.vctl 7 true true) = true ∧
    overflowing4.fault = none ∧ overflowing4.flushing = false ∧
    overflowing4.ring.length ≤ overflowing4.params.ringCapacity ∧
    overflowing4.params.ringCapacity < overflowing4.ring.length + overflowing4.accCycles / 64 := by
  refine ⟨rfl, rfl, rfl, ?_⟩; decide +kernel

/-- `Ready`, the hypothesis of the register, VCTL and LOAD statements: with nothing pending, and with exactly the room. -/
theorem test_witness_Ready : Ready core4 ∧ Ready full4 ∧ Ready oneTick4 := by unfold Ready; decide +kernel

/-- `fault = none`, the hypothesis of the CYC, PULL and high-address statements, also with cycles over and a full ring. -/
theorem test_witness_not_faulted : overflowing4.fault = none ∧ fullRing4.fault = none := by decide

/-- The KON statements' two clauses, and LOAD's. -/
theorem test_witness_key_masks :
    (0x81 : Byte).getLsbD (7 : VoiceId) = true ∧ (0x81 : Byte).getLsbD (6 : VoiceId) = false ∧
    ramp[0x4C].getLsbD (0 : VoiceId) = true ∧ ramp[0x4C].getLsbD (7 : VoiceId) = false := by decide +kernel

theorem test_witness_WriteThenReadReturnsTheByte :
    (Instr.wrVoll 7 0xFF, Instr.rdVoll 7) ∈ storedPairs 7 0xFF ∧ (Instr.wrEdl 0xFF, Instr.rdEdl) ∈ storedPairs 0 0xFF := by
  decide

theorem test_witness_IgnoredWritesOnlyFlush :
    Instr.wrUnused1D 0xFF ∈ [Instr.wrEnvx 7 0xFF, .wrOutx 7 0xFF, .wrUnusedXA 7 0xFF, .wrUnusedXB 7 0xFF, .wrUnusedXE 7 0xFF,
      .wrUnused1D 0xFF] := by decide

theorem test_witness_ReservedWordsAreRefused :
    8 ≤ ((bareWord 0x80000000).word.extractLsb' 28 4).toNat ∧ ¬ 8 ≤ ((bareWord 0x7FFFFFFF).word.extractLsb' 28 4).toNat := by
  decide

theorem test_witness_FaultedCoreRefusesAllButReset : faulted4.fault ≠ none ∧ Instr.reserved ≠ .reset := by decide

end Sys2Proof.Tests
end

section
/-! PROOFS. The ranges the core's arithmetic stays in (00_scope.md R9 to R11): samples, FIR histories, the noise word and the
envelope. -/

namespace Sys2Proof.Machine

/-! ## Samples -/

/-- The model shifts by an `Int`; the lemma of the library divides by a power whose exponent is a `Nat`. -/
theorem shiftRight_eq_div (v n : Int) (k : Nat) (h : n = k) : v >>> n = v / 2 ^ k := by
  rw [h, Int.shiftRight_natCast_right, Int.shiftRight_eq_div_pow]; norm_cast

theorem inSample_zero : InSample 0 := by unfold InSample; decide

theorem inHistory_zero : InHistory 0 := by unfold InHistory; decide

theorem clamp16_inSample (v : Int) : InSample (clamp16 v) := by
  simp only [InSample, clamp16, Sample]; omega

theorem wrap16_inSample (v : Int) : InSample (wrap16 v) := by
  simp only [InSample, wrap16, sext, zext, Sample]; omega

/-- Both ends of the range survive: -32768 is even, and clearing bit 0 only lowers an odd value by 1. -/
theorem clearBit0_inSample {x : Sample} (h : InSample x) : InSample (clearBit0 x) := by
  simp only [InSample, clearBit0, Sample] at h ⊢; omega

theorem toInt_inSample (b : BitVec 16) : InSample b.toInt := by
  have hl := BitVec.le_toInt b
  have hu := BitVec.toInt_lt (x := b)
  simp only [InSample, Sample]; omega

/-- 43_echo_filter.md R211: a sample enters the FIR history halved. -/
theorem InSample.halve {x : Sample} (h : InSample x) : InHistory (x >>> 1) := by
  rw [shiftRight_eq_div x 1 1 rfl]
  simp only [InSample, InHistory, Sample] at h ⊢; omega

theorem firShift_inHistory {hist : Vector Sample 8} {x : Sample} (h : ∀ k : VoiceId, InHistory hist[k]) (hx : InSample x)
    (k : VoiceId) : InHistory (firShift hist x)[k] := by
  match k with
  | 0 => exact h 1
  | 1 => exact h 2
  | 2 => exact h 3
  | 3 => exact h 4
  | 4 => exact h 5
  | 5 => exact h 6
  | 6 => exact h 7
  | 7 => exact hx.halve

theorem outputFrame_inSample (s : State) (m : Mix) (e : EchoOut) :
    InSample (outputFrame s m e).left ∧ InSample (outputFrame s m e).right := by
  unfold outputFrame
  split
  · exact ⟨inSample_zero, inSample_zero⟩
  · exact ⟨clamp16_inSample _, clamp16_inSample _⟩

/-! ## The raw sample and its envelope scaling -/

theorem interpolate_inSample (p : Params) (v : Voice) : InSample (interpolate p v) := by
  unfold interpolate
  split
  · exact clearBit0_inSample (clamp16_inSample _)
  · exact toInt_inSample _
  · exact toInt_inSample _

theorem rawSample_inSample (s : State) (i : VoiceId) : InSample (rawSample s i) := by
  unfold rawSample
  split
  · exact wrap16_inSample _
  · exact interpolate_inSample _ _

/-- 42_voice.md R196: the bounds come from `level ≤ 2047 < 2048`, so scaling moves a sample strictly towards 0. -/
theorem envelopeScale_range {raw : Sample} {level : Nat} (hr : InSample raw) (hl : level ≤ 2047) :
    -32752 ≤ envelopeScale raw level ∧ envelopeScale raw level ≤ 32750 ∧ envelopeScale raw level % 2 = 0 := by
  obtain ⟨hr1, hr2⟩ := hr
  have hl' : (level : Int) ≤ 2047 := by exact_mod_cast hl
  have lower : -32768 * 2047 ≤ raw * level := by nlinarith
  have upper : raw * level ≤ 32767 * 2047 := by nlinarith
  rw [envelopeScale, shiftRight_eq_div _ 11 11 rfl]
  simp only [clearBit0, Sample] at *
  omega

/-! ## The noise word (44_dsp_tick.md R228) -/

theorem noiseNext_getLsbD_14 (n : BitVec 15) : (noiseNext n).getLsbD 14 = (n.getLsbD 0 ^^ n.getLsbD 1) := by
  simp [noiseNext, Bool.xor_comm]

theorem noiseNext_getLsbD_lt (n : BitVec 15) {k : Nat} (hk : k < 14) : (noiseNext n).getLsbD k = n.getLsbD (k + 1) := by
  have mask : ∀ j : Fin 14, (0x4000#15).getLsbD j.val = false := by decide
  simp [noiseNext, mask ⟨k, hk⟩, Nat.add_comm]

/-- The step is invertible at 0: bits 1 to 14 are shifted out of a zero word, and bit 0 is then its feedback bit. -/
theorem noiseNext_ne_zero {n : BitVec 15} (h : n ≠ 0) : noiseNext n ≠ 0 := by
  intro h0
  have high : ∀ k < 14, n.getLsbD (k + 1) = false := fun k hk => by rw [← noiseNext_getLsbD_lt n hk, h0]; simp
  have low : n.getLsbD 0 = false := by
    have h14 := noiseNext_getLsbD_14 n
    rw [h0, high 0 (by decide)] at h14
    simpa using h14.symm
  refine h (BitVec.eq_of_getLsbD_eq fun k hk => ?_)
  cases k with
  | zero => simpa using low
  | succ k => simpa using high k (by omega)

/-! ## The envelope (41_envelope.md R162, R166) -/

theorem exponentialStep_range {level : Nat} (h : level ≤ 2047) :
    -32 ≤ exponentialStep level ∧ exponentialStep level ≤ 3071 := by
  rw [exponentialStep, shiftRight_eq_div _ 8 8 rfl]; omega

theorem gainTarget_le (v : Voice) : gainTarget v ≤ 2032 := by
  have h := (v.regs.gain.extractLsb' 0 7).isLt
  simp only [gainTarget, bits]; omega

/-- 41_envelope.md R162: the extremes are a decrease of 32 from level 0 and the fast attack's 1024 from level 2047. -/
theorem envNext_range {v : Voice} (h : v.envLevel ≤ 2047) : -32 ≤ envNext v ∧ envNext v ≤ 3071 := by
  have exponential := exponentialStep_range h
  have target := gainTarget_le v
  unfold envNext
  extract_lets env
  have henv : 0 ≤ env ∧ env ≤ 2047 := ⟨by omega, by omega⟩
  repeat' split
  all_goals omega

theorem envClamp_le (env : Int) : envClamp env ≤ 2047 := by
  unfold envClamp
  split
  · omega
  · split <;> omega

end Sys2Proof.Machine
end

section
/-! PROOFS. What the operations on a voice make of a voice in range: block decoding, the phase advance, the envelope, the
render and key-on. -/

namespace Sys2Proof.Machine

/-! ## Voices in range -/

/-- `VoiceOk` says nothing of the register bytes, the envelope mode, the block address and flags, the marks and the host
controls. -/
theorem VoiceOk.congr_free {v : Voice} (h : VoiceOk v) (regs : VoiceRegs) (mode : EnvMode) (addr : Addr)
    (decEnd decLoop endx edge : Bool) (konTick : Nat) (mute solo : Bool) :
    VoiceOk { v with regs := regs, envMode := mode, brrAddr := addr, decEnd := decEnd, decLoop := decLoop, endx := endx,
                     edge := edge, konTick := konTick, mute := mute, solo := solo } := { h with }

theorem VoiceOk.setRegs {v : Voice} (h : VoiceOk v) (regs : VoiceRegs) : VoiceOk { v with regs := regs } := { h with }

theorem voiceReset_ok : VoiceOk Voice.reset := by
  have zero := inSample_zero
  have samples : ∀ k : Fin 16, Voice.reset.decSamples[k] = 0 := by decide
  exact { level := by decide, hidden := by decide, samples := fun k => samples k ▸ zero, index := by decide,
          history := ⟨zero, zero⟩, window := ⟨zero, zero, zero, zero⟩, phase := by decide, outEnv := by decide,
          lastRaw := zero }

/-- `VoiceOk` but for the phase and the decoder index, which pass their ends inside an advance (42_voice.md R190). -/
def VoiceOkInAdvance (v : Voice) : Prop := VoiceOk { v with phase := 0, decIndex := 0 }

theorem VoiceOk.inAdvance {v : Voice} (h : VoiceOk v) : VoiceOkInAdvance v :=
  { h with index := Nat.zero_lt_succ _, phase := Nat.zero_lt_succ _ }

theorem VoiceOkInAdvance.voiceOk {v : Voice} (h : VoiceOkInAdvance v) (hi : v.decIndex < 16) (hp : v.phase < 0x1000) :
    VoiceOk v := { h with index := hi, phase := hp }

/-! ## The BRR decoder (40_brr_decoder.md) -/

theorem decodeCodes_inSample (sh : Nat) (filter : BitVec 2) (codes : List Int) {p1 p2 : Sample} (h1 : InSample p1)
    (h2 : InSample p2) :
    (∀ x ∈ (decodeCodes sh filter codes p1 p2).1, InSample x) ∧
      InSample (decodeCodes sh filter codes p1 p2).2.1 ∧ InSample (decodeCodes sh filter codes p1 p2).2.2 := by
  induction codes generalizing p1 p2 with
  | nil => exact ⟨by simp [decodeCodes], h1, h2⟩
  | cons c rest ih =>
    have hx : InSample (decodeSample sh filter c p1 p2) := wrap16_inSample _
    obtain ⟨hall, hnew, hold⟩ := ih hx h1
    exact ⟨List.forall_mem_cons.mpr ⟨hx, hall⟩, hnew, hold⟩

/-- What holds of the default and of every entry holds of every place of the list cut or filled up. -/
theorem fixLength_forall {α : Type} {P : α → Prop} (n : Nat) {d : α} {xs : List α} (hd : P d) (hx : ∀ x ∈ xs, P x)
    (k : Fin n) : P (fixLength n d xs)[k] := by
  have hmem : (fixLength n d xs)[k] ∈ (xs ++ List.replicate n d).take n := List.getElem_mem _
  rcases List.mem_append.mp (List.mem_of_mem_take hmem) with h | h
  · exact hx _ h
  · rw [List.eq_of_mem_replicate h]; exact hd

theorem VoiceOkInAdvance.decodeBlock {v : Voice} (h : VoiceOkInAdvance v) (m : Memory) (a : Addr) :
    VoiceOkInAdvance (decodeBlock m a v) := by
  obtain ⟨hall, hnew, hold⟩ := decodeCodes_inSample (bits (Memory.read m a) 4 4) ((Memory.read m a).extractLsb' 2 2)
    (blockCodes (blockData m a)) h.history.1 h.history.2
  exact { h with samples := fixLength_forall 16 inSample_zero hall, history := ⟨hnew, hold⟩ }

theorem decNext_inSample {v : Voice} (h : VoiceOkInAdvance v) : InSample (decNext v) := by
  by_cases hi : v.decIndex < 16
  · have e : decNext v = v.decSamples[(⟨v.decIndex, hi⟩ : Fin 16)] := by simp [decNext, hi]
    exact e ▸ h.samples ⟨v.decIndex, hi⟩
  · have e : decNext v = 0 := by simp [decNext, hi]
    exact e ▸ inSample_zero

/-! ## The phase advance (42_voice.md R190 to R193) -/

theorem VoiceOkInAdvance.nextBlock {v : Voice} (h : VoiceOkInAdvance v) (m : Memory) (dir : Byte) :
    VoiceOkInAdvance (nextBlock m dir v) := by
  unfold Machine.nextBlock
  extract_lets u
  have hu : VoiceOkInAdvance u := by
    unfold u
    split
    · have level : (loopBlock m dir v).envLevel ≤ 2047 := by
        have hl : v.envLevel ≤ 2047 := h.level
        simp only [loopBlock]; split <;> omega
      exact { h with level := level }
    · exact { h with }
  exact hu.decodeBlock m _

/-- One crossing shifts a decoded sample into the window and lowers the phase by one sample. A block whose last sample was
taken is replaced at once, so the index stays below 16. -/
theorem advanceOne_spec (m : Memory) (dir : Byte) {v : Voice} (h : VoiceOkInAdvance v) (hi : v.decIndex < 16) :
    VoiceOkInAdvance (advanceOne m dir v) ∧ (advanceOne m dir v).decIndex < 16 ∧
      (advanceOne m dir v).phase = v.phase - 0x1000 := by
  unfold advanceOne
  extract_lets x u
  have hu : VoiceOkInAdvance u :=
    { h with window := ⟨h.window.2.1, h.window.2.2.1, h.window.2.2.2, decNext_inSample h⟩ }
  have index : u.decIndex = v.decIndex + 1 := rfl
  have phase : u.phase = v.phase - 0x1000 := rfl
  split
  · refine ⟨hu.nextBlock m dir, show (0 : Nat) < 16 by decide, ?_⟩
    rw [← phase, nextBlock]
    dsimp only [decodeBlock]
    split <;> rfl
  · rename_i hlast
    have : u.decIndex ≠ 16 := by simpa [decFinished] using hlast
    exact ⟨hu, by omega, phase⟩

theorem advanceMany_spec (m : Memory) (dir : Byte) (n : Nat) {v : Voice} (h : VoiceOkInAdvance v) (hi : v.decIndex < 16) :
    VoiceOkInAdvance (advanceMany m dir n v) ∧ (advanceMany m dir n v).decIndex < 16 ∧
      (advanceMany m dir n v).phase = v.phase - n * 0x1000 := by
  induction n generalizing v with
  | zero => exact ⟨h, hi, by simp [advanceMany]⟩
  | succ n ih =>
    obtain ⟨h1, hi1, hp1⟩ := advanceOne_spec m dir h hi
    obtain ⟨h2, hi2, hp2⟩ := ih h1 hi1
    exact ⟨h2, hi2, by rw [advanceMany, hp2, hp1]; omega⟩

theorem VoiceOk.advance {v : Voice} (h : VoiceOk v) (m : Memory) (dir : Byte) (p : Nat) :
    VoiceOk (advance m dir p v) := by
  have start : VoiceOkInAdvance { v with phase := v.phase + p } := h.inAdvance
  obtain ⟨hok, hi, hp⟩ := advanceMany_spec m dir ((v.phase + p) / 0x1000) start h.index
  refine hok.voiceOk hi ?_
  rw [hp]
  show v.phase + p - (v.phase + p) / 0x1000 * 0x1000 < 0x1000
  omega

/-! ## The envelope, the render and key-on -/

theorem VoiceOk.envTick {v : Voice} (h : VoiceOk v) (counter : Nat) : VoiceOk (envTick counter v) := by
  have level := h.level
  unfold Machine.envTick
  split
  · exact { h with level := show v.envLevel - 8 ≤ 2047 by omega }
  · refine { h with hidden := envNext_range level, level := ?_ }
    dsimp only
    split
    · exact envClamp_le _
    · exact level

theorem renderVoice_ok {s : State} {i : VoiceId} (h : VoiceOk s.voices[i]) (hIn : Sample) (anysolo : Bool) :
    VoiceOk (renderVoice s i hIn anysolo).voice :=
  { (h.advance s.mem s.regs.dir (effectivePitch s.regs.pmon i s.voices[i] hIn)).envTick s.counter with
    outEnv := envelopeScale_range (rawSample_inSample s i) h.level
    lastRaw := rawSample_inSample s i }

theorem VoiceOk.softReset {v : Voice} (h : VoiceOk v) : VoiceOk (softResetVoice v) :=
  { h with level := Nat.zero_le _ }

theorem VoiceOk.keyOff {v : Voice} (h : VoiceOk v) : VoiceOk (keyOffVoice v) := { h with }

/-- Key-on decodes the first block with the history (0, 0) and clears the window, the phase and the envelope
(42_voice.md R201). -/
theorem VoiceOk.keyOn {v : Voice} (h : VoiceOk v) (m : Memory) (dir : Byte) (ticksTotal : Nat) :
    VoiceOk (keyOnVoice m dir ticksTotal v) := by
  have start : VoiceOkInAdvance (decReset 0 0 { v with brrAddr := Memory.read16 m (directoryEntry dir v.regs.srcn) }) :=
    { h.inAdvance with history := ⟨inSample_zero, inSample_zero⟩ }
  exact { start.decodeBlock m (Memory.read16 m (directoryEntry dir v.regs.srcn)) with
    level := Nat.zero_le _
    hidden := show -32 ≤ (0 : Int) ∧ (0 : Int) ≤ 3071 by decide
    window := ⟨inSample_zero, inSample_zero, inSample_zero, inSample_zero⟩ }

end Sys2Proof.Machine
end

section
/-! PROOFS. The invariant under the named updates of the state, through a tick and through a flush. -/

namespace Sys2Proof.Machine

variable {s : State}

/-! ## The updates -/

theorem Inv.setRegs (h : Inv s) (r : Regs) : Inv { s with regs := r } := { h with }

theorem Inv.answer (h : Inv s) (r : Response) : Inv (s.answer r) := { h with }

theorem Inv.refuse (h : Inv s) : Inv s.refuse := { h with }

theorem Inv.setPending (h : Inv s) (rest : List HostInput) : Inv { s with pending := rest } := { h with }

theorem Inv.hostWrite (h : Inv s) (a : Addr) (bytes : List Byte) : Inv (s.hostWrite a bytes) :=
  { h with memory := Memory.wf_writeAll h.memory a bytes }

theorem Inv.setVoice (h : Inv s) (i : VoiceId) {x : Voice} (hx : VoiceOk x) : Inv (s.setVoice i x) :=
  { h with
    voices := fun v => by
      rw [State.setVoice_getElem]
      split
      · exact hx
      · exact h.voices v }

theorem Inv.updateVoice (h : Inv s) (i : VoiceId) {f : Voice → Voice} (hf : ∀ {x}, VoiceOk x → VoiceOk (f x)) :
    Inv (s.updateVoice i f) := h.setVoice i (hf (h.voices i))

theorem Inv.forVoices (h : Inv s) {f : VoiceId → State → State} (hf : ∀ v {t}, Inv t → Inv (f v t)) :
    Inv (s.forVoices f) := foldl_keeps Inv (fun t v => f v t) (fun _ v ht => hf v ht) voiceIds s h

theorem Inv.forMask (h : Inv s) (mask : Byte) {f : VoiceId → State → State} (hf : ∀ v {t}, Inv t → Inv (f v t)) :
    Inv (s.forMask mask f) := by
  refine foldl_keeps Inv (fun t v => if maskBit mask v then f v t else t) (fun t v ht => ?_) voiceIds s h
  split
  · exact hf v ht
  · exact ht

/-- The 64 cycles of a faulting tick (60_exceptions.md R371) are still pending when more are added. -/
theorem Inv.addCycles (h : Inv s) (n : Nat) : Inv (s.addCycles n) :=
  { h with fault := fun hf => ⟨(h.fault hf).1, Nat.le_add_right_of_le (h.fault hf).2⟩ }

theorem Inv.pullFrames (h : Inv s) (hf : s.fault = none) (n : Nat) : Inv (pullFrames n s) :=
  { h with
    ring := (List.drop_sublist n s.ring).length_le.trans h.ring
    frames := fun f hm => h.frames f (List.mem_of_mem_drop hm)
    fault := fun h' => absurd hf h' }

/-- Every field of the core is as after power-on; the capacity and the memory are those the run had (log 16). -/
theorem Inv.resetCore (h : Inv s) : Inv s.resetCore where
  voices v := by
    have e : s.resetCore.voices[v] = Voice.reset := by simp [State.resetCore, State.reset]
    exact e ▸ voiceReset_ok
  noise := show (0x4000 : BitVec 15) ≠ 0 by decide
  counter := Nat.zero_lt_succ _
  echoPos := ⟨rfl, .inl rfl⟩
  echoLen := ⟨rfl, Nat.zero_le _⟩
  histL k := by
    have e : s.resetCore.histL[k] = 0 := by simp [State.resetCore, State.reset]
    exact e ▸ inHistory_zero
  histR k := by
    have e : s.resetCore.histR[k] = 0 := by simp [State.resetCore, State.reset]
    exact e ▸ inHistory_zero
  capacity := h.capacity
  ring := Nat.zero_le _
  frames f hm := nomatch hm
  notFlushing := rfl
  fault hf := absurd rfl hf
  memory := h.memory

/-! ## The tick -/

/-- `Inv` while a flush is in progress: of `S.flushing` nothing is said. Every lemma about `Inv` and an update that leaves
`S.flushing` alone is one about `FlushInv`. -/
def FlushInv (s : State) : Prop := Inv (s.setFlushing false)

theorem FlushInv.flgSiliconEffects (h : FlushInv s) : FlushInv (flgSiliconEffects s) := by
  unfold Machine.flgSiliconEffects
  split
  · exact foldl_keeps FlushInv (fun t v => t.updateVoice v softResetVoice)
      (fun t v ht => Inv.updateVoice (s := t.setFlushing false) ht v VoiceOk.softReset) voiceIds s h
  · exact h

theorem FlushInv.noiseStep (h : FlushInv s) : FlushInv (noiseStep s) := by
  unfold Machine.noiseStep
  split
  · exact { h with noise := noiseNext_ne_zero h.noise }
  · exact h

theorem FlushInv.renderVoices (h : FlushInv s) : FlushInv (renderVoices s).1 :=
  foldl_keeps (fun y : State × Mix => FlushInv y.1) (renderStep (anySolo s))
    (fun y v hy => Inv.setVoice (s := y.1.setFlushing false) hy v (renderVoice_ok (hy.voices v) _ _)) voiceIds
    (s, Mix.start) h

theorem FlushInv.echoRead (h : FlushInv s) : FlushInv (echoRead s) :=
  { h with
    histL := firShift_inHistory h.histL (toInt_inSample _)
    histR := firShift_inHistory h.histR (toInt_inSample _) }

theorem FlushInv.beforePush (h : FlushInv s) : FlushInv (beforePush s) :=
  h.flgSiliconEffects.noiseStep.renderVoices.echoRead

theorem FlushInv.ringPush (h : FlushInv s) {f : Frame} (hf : InSample f.left ∧ InSample f.right)
    (hroom : s.ring.length < s.params.ringCapacity) : FlushInv (ringPush f s) :=
  { h with
    ring := by rw [State.setFlushing_ring, ringPush_ring, List.length_append]; exact hroom
    frames := List.forall_mem_append.mpr ⟨h.frames, List.forall_mem_singleton.mpr hf⟩
    fault := fun h' => absurd (h.fault h').1 hroom.ne }

theorem FlushInv.raiseFault (h : FlushInv s) (hfull : s.params.ringCapacity ≤ s.ring.length) (hc : 64 ≤ s.accCycles)
    (r : Fault) : FlushInv (s.raiseFault r) :=
  { h with fault := fun _ => ⟨h.ring.antisymm hfull, hc⟩ }

theorem FlushInv.echoWrite (h : FlushInv s) (m : Mix) (e : EchoOut) : FlushInv (echoWrite m e s) := by
  unfold Machine.echoWrite
  split
  · exact { h with memory := Memory.wf_write16 (Memory.wf_write16 h.memory _ _) _ _ }
  · exact h

theorem echoLength_range (edl : Byte) : echoLength edl % 0x800 = 0 ∧ echoLength edl ≤ 0x7800 := by
  have h := (edl.extractLsb' 0 4).isLt
  simp only [echoLength, bits]; omega

/-- The length is latched at cursor 0, and the cursor wraps when the next frame would not lie inside it (44_dsp_tick.md
R239). -/
theorem FlushInv.echoCursor (h : FlushInv s) : FlushInv (echoCursor s) := by
  have latched : (Machine.echoCursor s).echoLen % 0x800 = 0 ∧ (Machine.echoCursor s).echoLen ≤ 0x7800 := by
    dsimp only [Machine.echoCursor]
    split
    · exact echoLength_range _
    · exact h.echoLen
  have cursor : (Machine.echoCursor s).echoPos =
      if (Machine.echoCursor s).echoLen ≤ s.echoPos + 4 then 0 else s.echoPos + 4 := rfl
  have aligned : s.echoPos % 4 = 0 := h.echoPos.1
  refine { h with echoLen := latched, echoPos := ?_ }
  rw [State.setFlushing_echoPos, State.setFlushing_echoLen, cursor]
  split
  · exact ⟨rfl, .inl rfl⟩
  · exact ⟨by omega, .inr (by omega)⟩

theorem FlushInv.counterStep (h : FlushInv s) : FlushInv (counterStep s) :=
  { h with
    counter := by
      dsimp only [State.setFlushing, Machine.counterStep]
      split <;> omega }

theorem FlushInv.emitVisualization (h : FlushInv s) : FlushInv (emitVisualization s) := { h with }

theorem FlushInv.tickFinish (h : FlushInv s) (m : Mix) (e : EchoOut) : FlushInv (tickFinish m e s) :=
  (h.echoWrite m e).echoCursor.counterStep.emitVisualization

theorem beforePush_ring (s : State) : (beforePush s).ring = s.ring := by
  rw [beforePush, echoRead_ring, (tickRender_frame s).ring]

/-- A tick either pushes its frame into a ring with room, or records the fault at a full one with its cycles pending. -/
theorem FlushInv.tick (h : FlushInv s) (hc : 64 ≤ s.accCycles) : FlushInv (tick s) := by
  have frame := beforePush_frame s
  have ring := beforePush_ring s
  rcases tick_cases s with ⟨hfull, ht⟩ | ⟨hroom, ht⟩
  · rw [ht]
    exact h.beforePush.raiseFault (by rw [ring, frame.params]; exact hfull) (by rw [frame.accCycles]; exact hc) _
  · rw [ht]
    exact (h.beforePush.ringPush (outputFrame_inSample _ _ _) (by rw [ring, frame.params]; exact hroom)).tickFinish _ _

/-! ## The flush -/

theorem FlushInv.spendTick (h : FlushInv s) (hf : s.fault = none) : FlushInv s.spendTick :=
  { h with fault := fun h' => absurd hf h' }

/-- The loop runs a tick only while its 64 cycles are pending, and no tick after one that faulted. -/
theorem FlushInv.runTicks (n : Nat) (h : FlushInv s) (hc : 64 * n ≤ s.accCycles) : FlushInv (runTicks n s) := by
  induction n generalizing s with
  | zero => exact h
  | succ n ih =>
    have ht : FlushInv (Machine.tick s) := h.tick (by omega)
    by_cases hf : (Machine.tick s).fault = none
    · rw [runTicks_succ n s hf]
      refine ih (ht.spendTick hf) ?_
      rw [State.spendTick_accCycles, (tick_frame s).accCycles]
      omega
    · rw [runTicks_succ_of_fault n s hf]
      exact ht

theorem Inv.flush (h : Inv s) : Inv (flush s) :=
  have start : FlushInv (s.setFlushing true) := { h with notFlushing := rfl }
  start.runTicks _ (Nat.mul_div_le _ _)

theorem Inv.synced (h : Inv s) : Inv s.synced := by
  rw [State.synced, if_neg (by simp [h.notFlushing])]
  exact h.flush

theorem Inv.afterFlush (h : Inv s) {finish : State → State} (hf : ∀ {t}, Inv t → Inv (finish t)) :
    Inv (afterFlush finish s) := by
  by_cases hs : s.fault = none
  · rw [afterFlush_of_ok finish s hs]; exact hf h
  · rw [afterFlush_of_fault finish s hs]; exact h.answer _

end Sys2Proof.Machine
end

section
/-! PROOFS. The invariant through the port operations, and the obligation `StepKeepsInvariant`. -/

namespace Sys2Proof.Machine

section Operations

variable {s : State}

theorem Inv.updateVoiceRegs (h : Inv s) (v : VoiceId) (f : Voice → VoiceRegs) :
    Inv (s.updateVoice v fun x => { x with regs := f x }) := h.updateVoice v fun hx => hx.setRegs _

theorem Inv.writeSrcn (h : Inv s) (v : VoiceId) (d : Byte) : Inv (writeSrcn v d s) :=
  h.updateVoice v fun hx => hx.congr_free _ _ _ _ _ _ _ _ _ _

theorem Inv.setControls (h : Inv s) (v : VoiceId) (solo mute : Bool) : Inv (setControls v solo mute s) :=
  h.updateVoice v fun hx => hx.congr_free _ _ _ _ _ _ _ _ _ _

theorem Inv.writeEndx (h : Inv s) : Inv (writeEndx s) :=
  h.forVoices fun v _ ht => ht.updateVoice v fun hx => hx.congr_free _ _ _ _ _ _ _ _ _ _

theorem Inv.writeKon (h : Inv s) (d : Byte) : Inv (writeKon d s) :=
  (h.setRegs _).forMask d fun v t ht => ht.updateVoice v fun hx => hx.keyOn t.mem t.regs.dir t.ticksTotal

theorem Inv.writeKoff (h : Inv s) (d : Byte) : Inv (writeKoff d s) :=
  (h.setRegs _).forMask d fun v _ ht => ht.updateVoice v VoiceOk.keyOff

/-- What any operation but LOAD does after its flush: a read only answers, a write stores register bytes, or changes a voice
in one of the ways above. -/
theorem Inv.accessEffect (h : Inv s) {i : Instr} {f : State → State} (hi : accessEffect i = some f) : Inv (f s) := by
  cases i
  case rdVoll | rdVolr | rdPitchl | rdPitchh | rdSrcn | rdAdsr1 | rdAdsr2 | rdGain | rdEnvx | rdOutx | rdUnusedXA |
      rdUnusedXB | rdUnusedXE | rdFir | rdMvoll | rdMvolr | rdEvoll | rdEvolr | rdKon | rdKoff | rdFlg | rdEndx | rdEfb |
      rdUnused1D | rdPmon | rdNon | rdEon | rdDir | rdEsa | rdEdl | wrEnvx | wrOutx | wrUnusedXA | wrUnusedXB |
      wrUnusedXE | wrUnused1D =>
    cases hi; exact h.answer _
  case wrVoll | wrVolr | wrPitchl | wrPitchh | wrAdsr1 | wrAdsr2 | wrGain =>
    cases hi; exact (h.updateVoiceRegs _ _).answer _
  case wrFir | wrMvoll | wrMvolr | wrEvoll | wrEvolr | wrFlg | wrEfb | wrPmon | wrNon | wrEon | wrDir | wrEsa | wrEdl =>
    cases hi; exact (h.setRegs _).answer _
  case wrSrcn => cases hi; exact (h.writeSrcn _ _).answer _
  case wrKon => cases hi; exact (h.writeKon _).answer _
  case wrKoff => cases hi; exact (h.writeKoff _).answer _
  case wrEndx => cases hi; exact h.writeEndx.answer _
  case vctl => cases hi; exact (h.setControls _ _ _).answer _
  case rdHigh | wrHigh | cyc | flush | load | pull | reset | reserved => cases hi

/-! ## LOAD -/

theorem accessEffect_decodeWriteC (row : VoiceId) (d : Byte) :
    accessEffect (decodeWriteC row d) = some fun t => (writeColumnC row d t).answer .nothing := by
  fin_cases row <;> rfl

theorem accessEffect_decodeWriteD (row : VoiceId) (d : Byte) :
    accessEffect (decodeWriteD row d) = some fun t => (writeColumnD row d t).answer .nothing := by
  fin_cases row <;> rfl

/-- A register write inside LOAD does what the WR operation of its address does (46_host_port.md R352). -/
theorem accessEffect_decodeWrite (a d : Byte) (ha : a.msb = false) :
    accessEffect (decodeWrite a d) = some fun t => (writeEffect a d t).answer .nothing := by
  rw [decodeWrite, if_neg (by simp [ha])]
  unfold writeEffect
  generalize voiceField a = v, selectField a = x
  obtain ⟨x⟩ := x
  fin_cases x
  exacts [rfl, rfl, rfl, rfl, rfl, rfl, rfl, rfl, rfl, rfl, rfl, rfl,
    accessEffect_decodeWriteC v d, accessEffect_decodeWriteD v d, rfl, rfl]

theorem Inv.registerWrite (h : Inv s) (a d : Byte) (ha : a.msb = false) : Inv (registerWrite a d s) :=
  h.synced.afterFlush fun ht => ht.accessEffect (accessEffect_decodeWrite a d ha)

theorem Inv.loadWrites (h : Inv s) (data : Vector Byte 128) (l : List Nat)
    (hl : ∀ a ∈ l, (BitVec.ofNat 8 a).msb = false) : Inv (loadWrites data l s) := by
  induction l generalizing s with
  | nil => exact h
  | cons a rest ih =>
    obtain ⟨ha, hrest⟩ := List.forall_mem_cons.mp hl
    have ht := h.registerWrite (BitVec.ofNat 8 a) (data.toList.getD a 0) ha
    unfold Machine.loadWrites
    extract_lets t
    split
    · exact ht
    · exact ih ht hrest

theorem loadOrder_low : ∀ a ∈ loadOrder, (BitVec.ofNat 8 a).msb = false := by
  intro a ha
  have lt : a < 128 := by simp [loadOrder] at ha; omega
  simp [BitVec.msb_eq_decide]; omega

/-! ## The step -/

theorem Inv.exec (h : Inv s) {i : Instr} {t : State} (he : exec i s = .next t) : Inv t := by
  rcases exec_cases i s t he with ⟨-, rfl⟩ | ⟨-, rfl⟩ | ⟨-, -, rfl⟩ | ⟨hf, hok⟩
  · exact h.resetCore
  · exact h.refuse
  · exact h.refuse
  · rcases hok with ⟨f, hi, rfl⟩ | ⟨n, -, rfl⟩ | ⟨-, rfl⟩ | ⟨data, -, rfl⟩ | ⟨n, -, rfl⟩ | ⟨-, rfl⟩ | ⟨-, rfl⟩
    · exact h.synced.afterFlush fun ht => ht.accessEffect hi
    · exact (h.addCycles _).answer _
    · exact h.flush.answer _
    · exact h.loadWrites data loadOrder loadOrder_low
    · exact h.pullFrames hf _
    · exact h.answer _
    · exact h.answer _

/-- A step takes no input, an operation, or a host memory write (20_memory.md R80; 46_host_port.md R358). -/
theorem step_cases {t : State} (hs : step s = .next t) :
    (s.pending = [] ∧ t = s) ∨
    (∃ p rest, s.pending = .op p :: rest ∧ exec (decode p) { s with pending := rest } = .next t) ∨
    (∃ a bytes rest, s.pending = .mem a bytes :: rest ∧ t = State.hostWrite a bytes { s with pending := rest }) := by
  rw [step, State.takeInput] at hs
  cases hp : s.pending with
  | nil => rw [hp] at hs; cases hs; exact .inl ⟨rfl, rfl⟩
  | cons input rest =>
    rw [hp] at hs
    cases input with
    | op p => exact .inr (.inl ⟨p, rest, rfl, hs⟩)
    | mem a bytes => cases hs; exact .inr (.inr ⟨a, bytes, rest, rfl, rfl⟩)

end Operations

/-- Settles O6: the operation's flush keeps the invariant tick by tick (`FlushInv`), and what follows the flush keeps it by
`Inv.accessEffect`. -/
theorem stepKeepsInvariant : Obligations.StepKeepsInvariant := by
  intro s t h hs
  rcases step_cases hs with ⟨-, rfl⟩ | ⟨p, rest, -, he⟩ | ⟨a, bytes, rest, -, rfl⟩
  · exact h
  · exact (h.setPending rest).exec he
  · exact (h.setPending rest).hostWrite a bytes

end Sys2Proof.Machine
end

section
/-! PROOFS. What every step leaves alone of the host's side, and the obligation `EveryStepCompletesAndKeepsParameters`. -/

namespace Sys2Proof.Machine

variable {s t u : State}

/-- `t` has the parameters and the pending inputs of `s`. Every port operation keeps both: the parameters are fixed for a
run (log 8), and the queue is the step's to take from (log 1). -/
structure RunFrame (s t : State) : Prop where
  params : t.params = s.params
  pending : t.pending = s.pending

theorem RunFrame.refl (s : State) : RunFrame s s := ⟨rfl, rfl⟩

theorem RunFrame.trans (a : RunFrame s t) (b : RunFrame t u) : RunFrame s u :=
  ⟨b.params.trans a.params, b.pending.trans a.pending⟩

theorem RunFrame.answer (h : RunFrame s t) (r : Response) : RunFrame s (t.answer r) := ⟨h.params, h.pending⟩

theorem Kept.runFrame (h : Kept s t) : RunFrame s t := ⟨h.params, h.pending⟩

theorem WriteFrame.runFrame (h : WriteFrame s t) : RunFrame s t := ⟨h.params, h.pending⟩

/-- What follows an access's flush: a register write's frame (nothing at all for a read), then an answer
(45_register_port.md R260, R261; 46_host_port.md R356). -/
theorem accessEffect_frame {i : Instr} {f : State → State} (hi : accessEffect i = some f) (t : State) :
    ∃ u r, WriteFrame t u ∧ f t = u.answer r := by
  cases i
  case rdVoll | rdVolr | rdPitchl | rdPitchh | rdSrcn | rdAdsr1 | rdAdsr2 | rdGain | rdEnvx | rdOutx | rdUnusedXA |
      rdUnusedXB | rdUnusedXE | rdFir | rdMvoll | rdMvolr | rdEvoll | rdEvolr | rdKon | rdKoff | rdFlg | rdEndx | rdEfb |
      rdUnused1D | rdPmon | rdNon | rdEon | rdDir | rdEsa | rdEdl | wrEnvx | wrOutx | wrUnusedXA | wrUnusedXB |
      wrUnusedXE | wrUnused1D =>
    cases hi; exact ⟨t, _, .refl t, rfl⟩
  case wrVoll | wrVolr | wrPitchl | wrPitchh | wrSrcn | wrAdsr1 | wrAdsr2 | wrGain | vctl =>
    cases hi; exact ⟨_, _, t.updateVoice_writeFrame _ _, rfl⟩
  case wrFir | wrMvoll | wrMvolr | wrEvoll | wrEvolr | wrFlg | wrEfb | wrPmon | wrNon | wrEon | wrDir | wrEsa | wrEdl =>
    cases hi; exact ⟨_, _, t.setRegs_writeFrame _, rfl⟩
  case wrKon d => cases hi; exact ⟨_, _, writeKon_frame d t, rfl⟩
  case wrKoff d => cases hi; exact ⟨_, _, writeKoff_frame d t, rfl⟩
  case wrEndx => cases hi; exact ⟨_, _, writeEndx_frame t, rfl⟩
  case rdHigh | wrHigh | cyc | flush | load | pull | reset | reserved => cases hi

theorem accessEffect_runFrame {i : Instr} {f : State → State} (hi : accessEffect i = some f) (t : State) :
    RunFrame t (f t) := by
  obtain ⟨u, r, frame, hf⟩ := accessEffect_frame hi t
  exact hf ▸ frame.runFrame.answer r

/-- An operation that flushes first: a flush that faults (60_exceptions.md R371) leaves the host's side as one that
completes does. -/
theorem afterFlush_synced_runFrame {finish : State → State} (hf : ∀ t, RunFrame t (finish t)) (s : State) :
    RunFrame s (afterFlush finish s.synced) := by
  have flushed : RunFrame s s.synced := (synced_kept s).runFrame
  by_cases hs : s.synced.fault = none
  · rw [afterFlush_of_ok finish _ hs]; exact flushed.trans (hf _)
  · rw [afterFlush_of_fault finish _ hs]; exact flushed.answer _

theorem registerWrite_runFrame (a d : Byte) (s : State) : RunFrame s (registerWrite a d s) :=
  afterFlush_synced_runFrame (fun t => (writeEffect_frame a d t).runFrame.answer _) s

theorem loadWrites_runFrame (data : Vector Byte 128) (l : List Nat) (s : State) : RunFrame s (loadWrites data l s) := by
  induction l generalizing s with
  | nil => exact .refl s
  | cons a rest ih =>
    have written := registerWrite_runFrame (BitVec.ofNat 8 a) (data.toList.getD a 0) s
    rw [loadWrites]
    split
    · exact written
    · exact written.trans (ih _)

theorem exec_runFrame {i : Instr} (he : exec i s = .next t) : RunFrame s t := by
  rcases exec_cases i s t he with ⟨-, rfl⟩ | ⟨-, rfl⟩ | ⟨-, -, rfl⟩ | ⟨-, hok⟩
  · exact ⟨rfl, rfl⟩
  · exact ⟨rfl, rfl⟩
  · exact ⟨rfl, rfl⟩
  · rcases hok with ⟨f, hi, rfl⟩ | ⟨n, -, rfl⟩ | ⟨-, rfl⟩ | ⟨data, -, rfl⟩ | ⟨n, -, rfl⟩ | ⟨-, rfl⟩ | ⟨-, rfl⟩
    · exact afterFlush_synced_runFrame (accessEffect_runFrame hi) s
    · exact ⟨rfl, rfl⟩
    · exact (flush_kept s).runFrame.answer _
    · exact loadWrites_runFrame data loadOrder s
    · exact ⟨rfl, rfl⟩
    · exact ⟨rfl, rfl⟩
    · exact ⟨rfl, rfl⟩

/-- Each arm is a `portOp`, RESET or the refusal, and each of these is a next state (logs 4, 5, 24). -/
theorem exec_completes (i : Instr) (s : State) : ∃ t, exec i s = .next t := by
  cases i <;> exact ⟨_, rfl⟩

theorem step_completes (s : State) : ∃ t, step s = .next t := by
  unfold step
  split
  · exact ⟨_, rfl⟩
  · exact exec_completes _ _
  · exact ⟨_, rfl⟩

/-- Settles O5: every arm of `exec` is a next state, and an operation runs on the state whose first input is taken and
keeps its host's side (`exec_runFrame`). -/
theorem everyStepCompletesAndKeepsParameters : Obligations.EveryStepCompletesAndKeepsParameters := by
  intro s
  obtain ⟨t, hs⟩ := step_completes s
  rcases step_cases hs with ⟨hp, rfl⟩ | ⟨p, rest, hp, he⟩ | ⟨a, bytes, rest, hp, rfl⟩
  · exact ⟨t, hs, rfl, by rw [hp, List.tail_nil]⟩
  · obtain ⟨params, pending⟩ := exec_runFrame he
    exact ⟨t, hs, params, by rw [hp, List.tail_cons]; exact pending⟩
  · exact ⟨_, hs, rfl, by rw [hp, List.tail_cons, State.hostWrite_pending]⟩

end Sys2Proof.Machine
end

section
/-! PROOFS. Where memory changes: the echo frames of a flush's ticks, and nothing after the flush; the obligation
`OperationsWriteOnlyEchoFrames`. -/

namespace Sys2Proof.Machine

variable {s t : State}

/-! ## The tick and the flush -/

theorem tick_mem_of_echo_disabled (h : s.regs.flg.getLsbD 5 = true) : (tick s).mem = s.mem := by
  rcases tick_mem s with e | ⟨enabled, -⟩
  · exact e
  · rw [echoWriteEnabled, h] at enabled; cases enabled

/-- 44_dsp_tick.md R238: a tick writes only the two samples of the echo frame it starts at. -/
theorem tick_read_ne (hwf : Memory.wf s.mem = true) {a : Addr} (ha : a ∉ frameBytes (echoFrameAddr s)) :
    Memory.read (tick s).mem a = Memory.read s.mem a := by
  simp only [frameBytes, List.mem_cons, List.not_mem_nil, or_false, not_or] at ha
  obtain ⟨h0, h1, h2, h3⟩ := ha
  rcases tick_mem s with e | ⟨-, -, l, r, e⟩
  · rw [e]
  · have h3' : a ≠ echoFrameAddr s + 2 + 1 := by rw [BitVec.add_assoc]; exact h3
    rw [e, Memory.read_write16_ne (Memory.wf_write16 hwf _ _) _ _ _ h2 h3', Memory.read_write16_ne hwf _ _ _ h0 h1]

/-- The flush loop writes only the echo frames its ticks start at; `runTicks k s` is where tick `k` starts. -/
theorem runTicks_read_ne (n : Nat) (hwf : Memory.wf s.mem = true) {a : Addr}
    (ha : ∀ k < n, a ∉ frameBytes (echoFrameAddr (runTicks k s))) :
    Memory.read (runTicks n s).mem a = Memory.read s.mem a := by
  induction n generalizing s with
  | zero => rfl
  | succ n ih =>
    have first : Memory.read (tick s).mem a = Memory.read s.mem a := tick_read_ne hwf (ha 0 (Nat.succ_pos n))
    by_cases hf : (tick s).fault = none
    · have later : ∀ k < n, a ∉ frameBytes (echoFrameAddr (runTicks k (tick s).spendTick)) := fun k hk => by
        rw [← runTicks_succ k s hf]; exact ha (k + 1) (Nat.succ_lt_succ hk)
      rw [runTicks_succ n s hf, ih (s := (tick s).spendTick) (tick_mem_wf s hwf) later, State.spendTick_mem, first]
    · rw [runTicks_succ_of_fault n s hf, first]

theorem flush_mem_of_echo_disabled (h : s.regs.flg.getLsbD 5 = true) : (flush s).mem = s.mem := by
  have loop := runTicks_keeps (fun t => t.regs = s.regs ∧ t.mem = s.mem)
    (fun t ⟨hr, hm⟩ => ⟨(tick_frame t).regs.trans hr, (tick_mem_of_echo_disabled (hr ▸ h)).trans hm⟩)
    (fun _ ht => ht) (s.accCycles / 64) (s.setFlushing true) ⟨rfl, rfl⟩
  exact loop.2

/-- A flush loop no tick of which faults takes off 64 cycles for every turn (46_host_port.md R351). -/
theorem runTicks_accCycles (n : Nat) (h : (runTicks n s).fault = none) :
    (runTicks n s).accCycles = s.accCycles - 64 * n := by
  induction n generalizing s with
  | zero => rfl
  | succ n ih =>
    by_cases hf : (tick s).fault = none
    · rw [runTicks_succ n s hf] at h ⊢
      rw [ih h, State.spendTick_accCycles, (tick_frame s).accCycles]
      omega
    · rw [runTicks_succ_of_fault n s hf] at h
      exact absurd h hf

/-- A flush that did not fault left no whole tick pending. -/
theorem synced_quiet_of_ok (h : s.synced.fault = none) : s.synced.flushing = true ∨ s.synced.accCycles < 64 := by
  by_cases hs : s.flushing = true
  · rw [State.synced, if_pos hs]; exact .inl hs
  · rw [State.synced, if_neg hs] at h ⊢
    have acc : (flush s).accCycles = s.accCycles - 64 * (s.accCycles / 64) :=
      runTicks_accCycles (s := s.setFlushing true) _ h
    exact .inr (by omega)

theorem synced_mem (s : State) : s.synced.mem = s.mem ∨ s.synced.mem = (flush s).mem := by
  unfold State.synced
  split
  · exact .inl rfl
  · exact .inr rfl

/-! ## The operations -/

/-- After a flush an operation writes at most the voices and the register bytes, and answers, also when the flush faulted. -/
theorem afterFlush_frame {finish : State → State} (hf : ∀ t, ∃ u r, WriteFrame t u ∧ finish t = u.answer r) (t : State) :
    ∃ u r, WriteFrame t u ∧ afterFlush finish t = u.answer r := by
  by_cases ht : t.fault = none
  · rw [afterFlush_of_ok finish t ht]; exact hf t
  · rw [afterFlush_of_fault finish t ht]; exact ⟨t, _, .refl t, rfl⟩

theorem registerWrite_frame (a d : Byte) (s : State) : ∃ u r, WriteFrame s.synced u ∧ registerWrite a d s = u.answer r :=
  afterFlush_frame (fun t => ⟨_, _, writeEffect_frame a d t, rfl⟩) s.synced

/-- LOAD reaches memory only through one flush: the writes end at a flush that faults, and after one that does not, nothing
is left to flush (46_host_port.md R352). -/
theorem loadWrites_mem (data : Vector Byte 128) (l : List Nat) (s : State) :
    (loadWrites data l s).mem = s.mem ∨ (loadWrites data l s).mem = s.synced.mem := by
  induction l generalizing s with
  | nil => exact .inl rfl
  | cons a rest ih =>
    obtain ⟨u, r, frame, hu⟩ := registerWrite_frame (BitVec.ofNat 8 a) (data.toList.getD a 0) s
    right
    rw [loadWrites, hu]
    split
    · exact frame.mem
    · rename_i hok
      have ok : s.synced.fault = none := by
        rw [← frame.fault, ← State.answer_fault u r]; exact Option.not_isSome_iff_eq_none.mp hok
      have quiet : (u.answer r).synced = u.answer r := (u.answer r).synced_of_quiet (by
        rw [State.answer_flushing, State.answer_accCycles, frame.flushing, frame.accCycles]
        exact synced_quiet_of_ok ok)
      have later := ih (u.answer r)
      rw [quiet, or_self] at later
      rw [later, State.answer_mem, frame.mem]

/-- 20_memory.md R75: an operation reaches memory only through its flush. -/
theorem exec_mem {i : Instr} (he : exec i s = .next t) : t.mem = s.mem ∨ t.mem = (flush s).mem := by
  rcases exec_cases i s t he with ⟨-, rfl⟩ | ⟨-, rfl⟩ | ⟨-, -, rfl⟩ | ⟨-, hok⟩
  · exact .inl rfl
  · exact .inl rfl
  · exact .inl rfl
  · rcases hok with ⟨f, hi, rfl⟩ | ⟨n, -, rfl⟩ | ⟨-, rfl⟩ | ⟨data, -, rfl⟩ | ⟨n, -, rfl⟩ | ⟨-, rfl⟩ | ⟨-, rfl⟩
    · obtain ⟨u, r, frame, hu⟩ := afterFlush_frame (accessEffect_frame hi) s.synced
      rw [hu, State.answer_mem, frame.mem]
      exact synced_mem s
    · exact .inl rfl
    · exact .inr rfl
    · rcases loadWrites_mem data loadOrder s with e | e
      · exact .inl e
      · rw [e]; exact synced_mem s
    · exact .inl rfl
    · exact .inl rfl
    · exact .inl rfl

/-- Settles O8: an operation's memory is its flush's (`exec_mem`), whose ticks write their own echo frames and only with FLG
bit 5 clear. -/
theorem operationsWriteOnlyEchoFrames : Obligations.OperationsWriteOnlyEchoFrames := by
  refine ⟨fun i s t he => ⟨exec_mem he, fun hflg => ?_⟩, fun s a hwf ha => ?_⟩
  · rcases exec_mem he with e | e
    · exact e
    · rw [e, flush_mem_of_echo_disabled hflg]
  · exact runTicks_read_ne (s := s.setFlushing true) _ hwf ha

end Sys2Proof.Machine
end

section
/-! PROOFS. What a step is for each kind of host input, the bytes of a host memory write read back, and the obligation
`StepRunsTheDecodedOperation`. -/

namespace Sys2Proof.Machine

/-! ## The step by its input -/

section Step

variable {s : State}

theorem step_of_op {p : PortWord} {rest : List HostInput} (h : s.pending = .op p :: rest) :
    step s = exec (decode p) { s with pending := rest } := by
  rw [step, State.takeInput, h]

theorem step_of_mem {a : Addr} {bytes : List Byte} {rest : List HostInput} (h : s.pending = .mem a bytes :: rest) :
    step s = .next (State.hostWrite a bytes { s with pending := rest }) := by
  rw [step, State.takeInput, h]

theorem step_of_no_input (h : s.pending = []) : step s = .next s := by
  rw [step, State.takeInput, h, State.idle]

end Step

/-! ## The bytes of a host memory write -/

/-- Byte `k` stands where it was written unless the write, wrapping modulo 2^16, put a later byte there (20_memory.md R71). -/
theorem Memory.read_writeAll {m : Memory} (hwf : Memory.wf m = true) (a : Addr) (bytes : List Byte) (k : Nat)
    (hk : k < bytes.length)
    (later : ∀ j, k < j → j < bytes.length → a + BitVec.ofNat 16 j ≠ a + BitVec.ofNat 16 k) :
    Memory.read (Memory.writeAll m a bytes) (a + BitVec.ofNat 16 k) = bytes[k] := by
  induction bytes generalizing m a k with
  | nil => exact absurd hk (Nat.not_lt_zero k)
  | cons b rest ih =>
    cases k with
    | zero =>
      have first : a + BitVec.ofNat 16 0 = a := BitVec.add_zero a
      rw [first] at later ⊢
      have untouched : ∀ j < rest.length, a ≠ a + 1 + BitVec.ofNat 16 j := fun j hj => by
        rw [← Memory.addr_succ]; exact (later (j + 1) (Nat.succ_pos j) (Nat.succ_lt_succ hj)).symm
      rw [Memory.writeAll, Memory.read_writeAll_ne _ _ _ _ untouched,
        Memory.read_write hwf, if_pos rfl, List.getElem_cons_zero]
    | succ k =>
      rw [Memory.addr_succ, Memory.writeAll, List.getElem_cons_succ]
      refine ih (Memory.wf_write hwf a b) (a + 1) k (Nat.lt_of_succ_lt_succ hk) fun j hkj hj => ?_
      rw [← Memory.addr_succ, ← Memory.addr_succ]
      exact later (j + 1) (Nat.succ_lt_succ hkj) (Nat.succ_lt_succ hj)

/-- Settles O4: the step by its input, and a host memory write byte by byte. -/
theorem stepRunsTheDecodedOperation : Obligations.StepRunsTheDecodedOperation :=
  ⟨fun _ => ⟨fun _ _ => step_of_op, fun _ _ _ => step_of_mem, step_of_no_input⟩,
   fun m a bytes hwf => ⟨Memory.read_writeAll hwf a bytes, fun c => Memory.read_writeAll_ne m a c bytes⟩⟩

end Sys2Proof.Machine
end

section
/-! PROOFS. The decoder and the encoder (30_encoding.md R90 to R92, R106, R114): the fields of an encoded word, and
decoding what was encoded, as a word and as bytes. -/

namespace Sys2Proof

/-! ## The fields of an encoded word (R106) and of a register address (R90) -/

section Fields

variable (op : BitVec 4) (ignored : BitVec 12) (a d : Byte)

theorem opField_append : opField (op ++ (ignored ++ (a ++ d)) : BitVec 32) = op := BitVec.extractLsb'_append_eq_left

theorem addressField_append : addressField (op ++ (ignored ++ (a ++ d)) : BitVec 32) = a :=
  calc addressField (op ++ (ignored ++ (a ++ d)) : BitVec 32)
    _ = (ignored ++ (a ++ d)).extractLsb' 8 8 := BitVec.extractLsb'_append_eq_of_add_le (by decide)
    _ = (a ++ d).extractLsb' 8 8 := BitVec.extractLsb'_append_eq_of_add_le (by decide)
    _ = a := BitVec.extractLsb'_append_eq_left

theorem dataField_append : dataField (op ++ (ignored ++ (a ++ d)) : BitVec 32) = d :=
  calc dataField (op ++ (ignored ++ (a ++ d)) : BitVec 32)
    _ = (ignored ++ (a ++ d)).extractLsb' 0 8 := BitVec.extractLsb'_append_eq_of_add_le (by decide)
    _ = (a ++ d).extractLsb' 0 8 := BitVec.extractLsb'_append_eq_of_add_le (by decide)
    _ = d := BitVec.extractLsb'_append_eq_right

end Fields

@[simp] theorem opField_readWord (a : Byte) : opField (readWord a).word = 0x0 := opField_append ..

@[simp] theorem addressField_readWord (a : Byte) : addressField (readWord a).word = a := addressField_append ..

@[simp] theorem opField_writeWord (a d : Byte) : opField (writeWord a d).word = 0x1 := opField_append ..

@[simp] theorem addressField_writeWord (a d : Byte) : addressField (writeWord a d).word = a := addressField_append ..

@[simp] theorem dataField_writeWord (a d : Byte) : dataField (writeWord a d).word = d := dataField_append ..

@[simp] theorem opField_countWord (op : BitVec 4) (n : BitVec 28) : opField (countWord op n).word = op :=
  BitVec.extractLsb'_append_eq_left

@[simp] theorem countField_countWord (op : BitVec 4) (n : BitVec 28) : countField (countWord op n).word = n :=
  BitVec.extractLsb'_append_eq_right

@[simp] theorem msb_registerAddress : ∀ (v : VoiceId) (s : BitVec 4), (registerAddress v s).msb = false := by decide

@[simp] theorem voiceField_registerAddress : ∀ (v : VoiceId) (s : BitVec 4), voiceField (registerAddress v s) = v := by
  decide

@[simp] theorem selectField_registerAddress : ∀ (v : VoiceId) (s : BitVec 4), selectField (registerAddress v s) = s := by
  decide

/-! ## Decoding an encoded word -/

@[simp] theorem decode_readWord (a : Byte) : decode (readWord a) = decodeRead a := by
  simp [decode]

@[simp] theorem decode_writeWord (a d : Byte) : decode (writeWord a d) = decodeWrite a d := by
  simp [decode]

theorem decode_controlWord : ∀ (v : VoiceId) (solo mute : Bool), decode (controlWord v solo mute) = .vctl v solo mute := by
  decide

theorem decode_of_load {p : PortWord} (h : opField p.word = 0x4) : decode p = .load p.beside := by
  simp [decode, h]

theorem opField_load (data : Vector Byte 128) : opField (encode (.load data)).word = 0x4 :=
  show opField 0x40000000#32 = 0x4 by decide

/-- The operations of the columns 0x_C and 0x_D and those with no operand are evaluated; a voice's operation decodes by the
fields of its address. -/
theorem decode_encode (i : Instr) (h : i.wellFormed = true) : decode (encode i) = i := by
  cases i with
  | rdHigh a => exact (decode_readWord a).trans (if_pos h)
  | wrHigh a d => exact (decode_writeWord a d).trans (if_pos h)
  | rdVoll v | rdVolr v | rdPitchl v | rdPitchh v | rdSrcn v | rdAdsr1 v | rdAdsr2 v | rdGain v | rdEnvx v | rdOutx v
  | rdUnusedXA v | rdUnusedXB v | rdUnusedXE v | rdFir v =>
    simp [encode, decodeRead]
  | wrVoll v d | wrVolr v d | wrPitchl v d | wrPitchh v d | wrSrcn v d | wrAdsr1 v d | wrAdsr2 v d | wrGain v d
  | wrEnvx v d | wrOutx v d | wrUnusedXA v d | wrUnusedXB v d | wrUnusedXE v d | wrFir v d =>
    simp [encode, decodeWrite]
  | rdMvoll | rdMvolr | rdEvoll | rdEvolr | rdKon | rdKoff | rdFlg | rdEndx | rdEfb | rdUnused1D | rdPmon | rdNon | rdEon
  | rdDir | rdEsa | rdEdl => rfl
  | wrMvoll d | wrMvolr d | wrEvoll d | wrEvolr d | wrKon d | wrKoff d | wrFlg d | wrEndx d | wrEfb d | wrUnused1D d
  | wrPmon d | wrNon d | wrEon d | wrDir d | wrEsa d | wrEdl d =>
    rw [encode, decode_writeWord]; rfl
  | cyc n | pull n => simp [encode, decode]
  | vctl v solo mute => exact decode_controlWord v solo mute
  | load data => exact decode_of_load (opField_load data)
  | flush | reset | reserved => rfl

/-! ## The byte stream (log 12) -/

/-- The bytes of a word, least significant first. -/
def wordBytes (w : BitVec 32) : List Byte :=
  [w.extractLsb' 0 8, w.extractLsb' 8 8, w.extractLsb' 16 8, w.extractLsb' 24 8]

theorem wordOfBytes_extractLsb' (w : BitVec 32) :
    wordOfBytes (w.extractLsb' 0 8) (w.extractLsb' 8 8) (w.extractLsb' 16 8) (w.extractLsb' 24 8) = w :=
  calc wordOfBytes (w.extractLsb' 0 8) (w.extractLsb' 8 8) (w.extractLsb' 16 8) (w.extractLsb' 24 8)
    _ = w.extractLsb' 24 8 ++ (w.extractLsb' 16 8 ++ w.extractLsb' 0 16) :=
      congrArg _ (congrArg _ (BitVec.extractLsb'_append_extractLsb'_eq_extractLsb' rfl))
    _ = w.extractLsb' 24 8 ++ w.extractLsb' 0 24 :=
      congrArg _ (BitVec.extractLsb'_append_extractLsb'_eq_extractLsb' rfl)
    _ = w.extractLsb' 0 32 := BitVec.extractLsb'_append_extractLsb'_eq_extractLsb' rfl
    _ = w := BitVec.extractLsb'_eq_self

theorem fixLength_append {α : Type} {n : Nat} (d : α) (xs : Vector α n) (rest : List α) :
    fixLength n d (xs.toList ++ rest) = xs := by
  apply Vector.toList_inj.1
  simp [fixLength, Vector.toList]

theorem decodeBytes_load {w : BitVec 32} (hw : opField w = 0x4) (data : Vector Byte 128) (rest : List Byte) :
    decodeBytes (wordBytes w ++ (data.toList ++ rest)) = .ok (.load data, rest) := by
  have long : 128 ≤ (data.toList ++ rest).length := by simp
  have drop : (data.toList ++ rest).drop 128 = rest := List.drop_left' data.length_toList
  simp only [wordBytes, List.cons_append, List.nil_append, decodeBytes, wordOfBytes_extractLsb', if_pos hw, if_pos long,
    fixLength_append, drop, decode_of_load (p := ⟨w, data⟩) hw]

theorem decodeBytes_bareWord {w : BitVec 32} (hw : opField w ≠ 0x4) (rest : List Byte) :
    decodeBytes (wordBytes w ++ rest) = .ok (decode (bareWord w), rest) := by
  simp only [wordBytes, List.cons_append, List.nil_append, decodeBytes, wordOfBytes_extractLsb', if_neg hw, bareWord]

theorem encodeBytes_load (data : Vector Byte 128) :
    encodeBytes (.load data) = wordBytes (encode (.load data)).word ++ data.toList := rfl

/-- Only LOAD has data beside its word, so only its byte form is longer than the word (30_encoding.md R106). -/
theorem encode_of_ne_load {i : Instr} (h : ∀ data, i ≠ .load data) :
    bareWord (encode i).word = encode i ∧ encodeBytes i = wordBytes (encode i).word := by
  cases i with
  | load data => exact absurd rfl (h data)
  | _ => exact ⟨rfl, rfl⟩

theorem decodeBytes_encodeBytes (i : Instr) (h : i.wellFormed = true) (rest : List Byte) :
    decodeBytes (encodeBytes i ++ rest) = .ok (i, rest) := by
  by_cases isLoad : ∃ data, i = .load data
  · obtain ⟨data, rfl⟩ := isLoad
    rw [encodeBytes_load, List.append_assoc, decodeBytes_load (opField_load data)]
  · have notLoad : ∀ data, i ≠ .load data := not_exists.1 isLoad
    have op : opField (encode i).word ≠ 0x4 := fun op =>
      notLoad _ ((decode_encode i h).symm.trans (decode_of_load op))
    obtain ⟨bare, bytes⟩ := encode_of_ne_load notLoad
    rw [bytes, decodeBytes_bareWord op, bare, decode_encode i h]

/-- Settles O1: the round trip of the word, and of its bytes in front of any others. -/
theorem decodeOfEncodeIsIdentity : Obligations.DecodeOfEncodeIsIdentity :=
  fun i h => ⟨decode_encode i h, decodeBytes_encodeBytes i h⟩

/-- Settles O3: twelve words evaluated, and LOAD by its operation code, whatever its data. -/
theorem specWordsDecode : Obligations.SpecWordsDecode :=
  ⟨by decide, by decide, by decide, by decide, by decide, by decide, by decide, by decide, by decide, by decide, by decide,
   by decide, fun data => decode_of_load (opField_load data)⟩

end Sys2Proof
end

section
/-! PROOFS. The opcode table (30_encoding.md R107, R110): its rows have no word in common, and every word matches the row of
the operation it decodes to. -/

namespace Sys2Proof

/-! ## Rows apart (R107) -/

theorem Instr.row_lt (i : Instr) : i.row < opcodeTable.length := by
  unfold Instr.row; split <;> decide

/-- The masks common to two rows tell them apart. -/
theorem opcodeTable_pairwise : opcodeTable.Pairwise fun r s => r.pattern &&& s.mask ≠ s.pattern &&& r.mask := by decide

theorem TableRow.patterns_agree {r s : TableRow} {w : BitVec 32} (hr : r.matches w = true) (hs : s.matches w = true) :
    r.pattern &&& s.mask = s.pattern &&& r.mask := by
  rw [← of_decide_eq_true hr, ← of_decide_eq_true hs, BitVec.and_assoc, BitVec.and_assoc, BitVec.and_comm r.mask]

/-- No word matches two rows. -/
theorem opcodeTable_row_unique {w : BitVec 32} {j k : Nat} (hj : j < opcodeTable.length) (hk : k < opcodeTable.length)
    (mj : (opcodeTable.getD j ⟨0, 0⟩).matches w = true) (mk : (opcodeTable.getD k ⟨0, 0⟩).matches w = true) : j = k := by
  have apart := List.pairwise_iff_getElem.1 opcodeTable_pairwise
  rw [List.getD_eq_getElem _ _ hj] at mj
  rw [List.getD_eq_getElem _ _ hk] at mk
  rcases Nat.lt_trichotomy j k with lt | eq | gt
  · exact absurd (TableRow.patterns_agree mj mk) (apart j k hj hk lt)
  · exact eq
  · exact absurd (TableRow.patterns_agree mk mj) (apart k j hk hj gt)

/-- A row's answer depends on no bit outside a mask that covers its own. -/
theorem TableRow.matches_congr {r : TableRow} {w w' m : BitVec 32} (hm : m &&& r.mask = r.mask) (h : w &&& m = w' &&& m) :
    r.matches w = r.matches w' := by
  rw [TableRow.matches, TableRow.matches, ← hm, ← BitVec.and_assoc, ← BitVec.and_assoc, h]

/-! ## The row of a decoded word (R107, R110) -/

/-- The operation is well formed and `w` matches its row. -/
def Instr.fits (i : Instr) (w : BitVec 32) : Bool := i.wellFormed && (opcodeTable.getD i.row ⟨0, 0⟩).matches w

/-- Operation code and address are all that a row reads. -/
theorem Instr.row_mask (i : Instr) :
    0xF000FF00#32 &&& (opcodeTable.getD i.row ⟨0, 0⟩).mask = (opcodeTable.getD i.row ⟨0, 0⟩).mask := by
  unfold Instr.row; split <;> decide

theorem fields_append (w : BitVec 32) :
    (opField w ++ (w.extractLsb' 16 12 ++ (addressField w ++ dataField w)) : BitVec 32) = w :=
  calc (opField w ++ (w.extractLsb' 16 12 ++ (addressField w ++ dataField w)) : BitVec 32)
    _ = w.extractLsb' 28 4 ++ (w.extractLsb' 16 12 ++ w.extractLsb' 0 16) :=
      congrArg _ (congrArg _ (BitVec.extractLsb'_append_extractLsb'_eq_extractLsb' rfl))
    _ = w.extractLsb' 28 4 ++ w.extractLsb' 0 28 :=
      congrArg _ (BitVec.extractLsb'_append_extractLsb'_eq_extractLsb' rfl)
    _ = w.extractLsb' 0 32 := BitVec.extractLsb'_append_extractLsb'_eq_extractLsb' rfl
    _ = w := BitVec.extractLsb'_eq_self

theorem and_opcodeAndAddress (w : BitVec 32) :
    w &&& 0xF000FF00#32 = (opField w ++ (0#12 ++ (addressField w ++ 0#8)) : BitVec 32) := by
  have mask : 0xF000FF00#32 = (BitVec.allOnes 4 ++ (0#12 ++ (BitVec.allOnes 8 ++ 0#8)) : BitVec 32) := by decide
  conv_lhs => rw [← fields_append w, mask]
  rw [BitVec.and_append, BitVec.and_append, BitVec.and_append]
  simp only [BitVec.and_allOnes, BitVec.and_zero]

theorem countWord_opField_countField (w : BitVec 32) : (countWord (opField w) (countField w)).word = w :=
  (BitVec.extractLsb'_append_extractLsb'_eq_extractLsb' rfl).trans BitVec.extractLsb'_eq_self

theorem Instr.fits_congr (i : Instr) {w w' : BitVec 32} (hop : opField w = opField w')
    (ha : addressField w = addressField w') : i.fits w = i.fits w' := by
  rw [Instr.fits, Instr.fits, TableRow.matches_congr i.row_mask]
  rw [and_opcodeAndAddress, and_opcodeAndAddress, hop, ha]

theorem and_opcode (w : BitVec 32) : w &&& 0xF0000000#32 = (countWord (opField w) 0).word := by
  conv_lhs => rw [← countWord_opField_countField w]
  exact countWord_and _ _

/-- An operation whose row reads the operation code and nothing else. -/
theorem Instr.fits_of_opField {i : Instr} {w : BitVec 32} {op : BitVec 4} (wf : i.wellFormed = true)
    (row : opcodeTable.getD i.row ⟨0, 0⟩ = ⟨(countWord op 0).word, 0xF0000000⟩) (hw : opField w = op) : i.fits w = true := by
  rw [Instr.fits, wf, row, Bool.true_and, ← hw]
  exact decide_eq_true (and_opcode w)

/-- The row of the reserved codes reads bit 31 alone. -/
theorem reserved_fits {w : BitVec 32} (hw : 8 ≤ (opField w).toNat) : Instr.reserved.fits w = true := by
  have byCode : ∀ op : BitVec 4, 8 ≤ op.toNat → Instr.reserved.fits (countWord op 0).word = true := by decide
  have code : w &&& 0xF0000000#32 = (countWord (opField w) 0).word &&& 0xF0000000#32 := by
    rw [and_opcode, and_opcode, opField_countWord]
  rw [← byCode _ hw, Instr.fits, Instr.fits, TableRow.matches_congr (by decide) code]

theorem decodeRead_fits_readWord : ∀ a : Byte, (decodeRead a).fits (readWord a).word = true := by decide

theorem decodeWrite_zero_fits_writeWord : ∀ a : Byte, (decodeWrite a 0).fits (writeWord a 0).word = true := by decide

/-- The datum of a write chooses neither its row nor whether it is well formed. -/
theorem decodeWrite_fits_congr (a d : Byte) (w : BitVec 32) : (decodeWrite a d).fits w = (decodeWrite a 0).fits w := by
  have columnC : ∀ v, (decodeWriteC v d).fits w = (decodeWriteC v 0).fits w := fun v => by fin_cases v <;> rfl
  have columnD : ∀ v, (decodeWriteD v d).fits w = (decodeWriteD v 0).fits w := fun v => by fin_cases v <;> rfl
  simp only [decodeWrite, apply_ite (Instr.fits · w), columnC, columnD]
  rfl

/-- By operation code: a read or write by its address, the others by the code alone (R106, R110). -/
theorem decode_fits (p : PortWord) : (decode p).fits p.word = true := by
  unfold decode
  extract_lets op
  split_ifs with h0 h1 h2 h3 h4 h5 h6 h7
  · rw [Instr.fits_congr _ (h0.trans (opField_readWord _).symm) (addressField_readWord _).symm]
    exact decodeRead_fits_readWord _
  · rw [decodeWrite_fits_congr, Instr.fits_congr _ (h1.trans (opField_writeWord _ 0).symm) (addressField_writeWord _ 0).symm]
    exact decodeWrite_zero_fits_writeWord _
  · exact Instr.fits_of_opField rfl rfl h2
  · exact Instr.fits_of_opField rfl rfl h3
  · exact Instr.fits_of_opField rfl rfl h4
  · exact Instr.fits_of_opField rfl rfl h5
  · exact Instr.fits_of_opField rfl rfl h6
  · exact Instr.fits_of_opField rfl rfl h7
  · exact reserved_fits (show 8 ≤ op.toNat by bv_omega)

/-- Settles O2: the row the word decodes to matches it, and rows apart match no word in common. -/
theorem everyWordHasExactlyOneTableRow : Obligations.EveryWordHasExactlyOneTableRow := by
  intro p
  obtain ⟨wf, own⟩ := Bool.and_eq_true_iff.1 (decode_fits p)
  refine ⟨wf, (decode p).row_lt, fun k hk => ⟨fun m => ?_, fun eq => eq ▸ own⟩⟩
  exact opcodeTable_row_unique hk (decode p).row_lt m own

end Sys2Proof
end

section
/-! PROOFS. The BRR block decoder (40_brr_decoder.md R131 to R138): each sample of a block is predicted from the two before
it; the obligations `SampleDecodesByItsFilter` and `BlockSamplesFollowTheirHistory`. -/

namespace Sys2Proof.Machine

/-! ## One sample (R133 to R138) -/

/-- Settles O33: `predict` has one branch per filter, and the four filter numbers choose between them by computation. -/
theorem sampleDecodesByItsFilter : Obligations.SampleDecodesByItsFilter :=
  fun _ _ _ _ => ⟨rfl, rfl, rfl, rfl⟩

/-- Wrapping subtracts a multiple of 2^16, so it keeps the parity of the doubled value. -/
theorem wrap16_double_even (v : Int) : wrap16 (v * 2) % 2 = 0 := by
  simp only [wrap16, sext, zext, Sample]; omega

theorem decodeSample_even (sh : Nat) (filter : BitVec 2) (c : Int) (p1 p2 : Sample) :
    decodeSample sh filter c p1 p2 % 2 = 0 := wrap16_double_even _

theorem decodeSample_inSample (sh : Nat) (filter : BitVec 2) (c : Int) (p1 p2 : Sample) :
    InSample (decodeSample sh filter c p1 p2) := wrap16_inSample _

/-! ## The samples of a list of codes (R131, R138) -/

theorem decodeCodes_length (sh : Nat) (filter : BitVec 2) (codes : List Int) (p1 p2 : Sample) :
    (decodeCodes sh filter codes p1 p2).1.length = codes.length := by
  induction codes generalizing p1 p2 with
  | nil => rfl
  | cons c rest ih => exact congrArg Nat.succ (ih _ p1)

/-- The two samples before the first code, the older one first, and then the samples of the codes. -/
def decodeHistory (sh : Nat) (filter : BitVec 2) (codes : List Int) (p1 p2 : Sample) : List Sample :=
  p2 :: p1 :: (decodeCodes sh filter codes p1 p2).1

/-- After the first sample the history is the old one without its oldest entry. -/
theorem decodeHistory_cons (sh : Nat) (filter : BitVec 2) (c : Int) (rest : List Int) (p1 p2 : Sample) :
    decodeHistory sh filter (c :: rest) p1 p2 =
      p2 :: decodeHistory sh filter rest (decodeSample sh filter c p1 p2) p1 := rfl

/-- Sample `k` is decoded from code `k` and the two entries of the history before it. -/
theorem decodeHistory_getD (sh : Nat) (filter : BitVec 2) (codes : List Int) (p1 p2 : Sample) {k : Nat}
    (hk : k < codes.length) :
    (decodeHistory sh filter codes p1 p2).getD (k + 2) 0 =
      decodeSample sh filter (codes.getD k 0) ((decodeHistory sh filter codes p1 p2).getD (k + 1) 0)
        ((decodeHistory sh filter codes p1 p2).getD k 0) := by
  induction codes generalizing p1 p2 k with
  | nil => cases hk
  | cons c rest ih =>
    cases k with
    | zero => rfl
    | succ k => exact ih _ p1 (Nat.lt_of_succ_lt_succ hk)

/-- The history that the codes leave is the last two entries. -/
theorem decodeCodes_history (sh : Nat) (filter : BitVec 2) (codes : List Int) (p1 p2 : Sample) :
    (decodeCodes sh filter codes p1 p2).2 =
      ((decodeHistory sh filter codes p1 p2).getD (codes.length + 1) 0,
        (decodeHistory sh filter codes p1 p2).getD codes.length 0) := by
  induction codes generalizing p1 p2 with
  | nil => rfl
  | cons c rest ih => exact ih _ p1

/-! ## The header and the codes of a block (R131, R132) -/

theorem bits_high_nibble (b : Byte) : bits b 4 4 = b.toNat / 16 := by
  have := b.isLt
  simp only [bits, BitVec.extractLsb'_toNat, Nat.shiftRight_eq_div_pow]; omega

theorem blockCodes_length (data : List Byte) : (blockCodes data).length = data.length * 2 := by
  simp [blockCodes, List.length_flatMap]

/-- Code `k` is a nibble of data byte `k / 2`, the high one first. -/
theorem blockCodes_getD (data : List Byte) {k : Nat} (hk : k < data.length * 2) :
    (blockCodes data).getD k 0 = ((data.getD (k / 2) 0).extractLsb' (if k % 2 = 0 then 4 else 0) 4).toInt := by
  induction data generalizing k with
  | nil => simp at hk
  | cons b rest ih =>
    match k with
    | 0 => rfl
    | 1 => rfl
    | k + 2 =>
      have hrest : k < rest.length * 2 := by rw [List.length_cons] at hk; omega
      rw [Nat.add_mod_right, Nat.add_div_right k Nat.two_pos]
      exact ih hrest

theorem blockData_getD (m : Memory) (a : Addr) (j : Fin 8) :
    (blockData m a).getD j 0 = Memory.read m (a + 1 + BitVec.ofNat 16 j) := by
  fin_cases j <;> simp [blockData, BitVec.add_assoc]

/-- Eight data bytes hold sixteen codes. -/
theorem blockCodes_blockData_length (m : Memory) (a : Addr) : (blockCodes (blockData m a)).length = 16 :=
  blockCodes_length _

theorem blockCodes_blockData_getD (m : Memory) (a : Addr) (k : Fin 16) :
    (blockCodes (blockData m a)).getD k 0 =
      ((Memory.read m (a + 1 + BitVec.ofNat 16 (k.val / 2))).extractLsb' (if k.val % 2 = 0 then 4 else 0) 4).toInt := by
  rw [blockCodes_getD _ k.isLt, blockData_getD m a ⟨k.val / 2, by omega⟩]

/-! ## A decoded block -/

/-- The history of the block at `a`, by its own header, from the history of the voice. -/
def blockHistory (m : Memory) (a : Addr) (v : Voice) : List Sample :=
  decodeHistory ((Memory.read m a).toNat / 16) ((Memory.read m a).extractLsb' 2 2) (blockCodes (blockData m a)) v.decP1
    v.decP2

/-- Sixteen codes give sixteen samples: none is cut off, and none is filled up with 0. -/
theorem decodeBlock_history (m : Memory) (a : Addr) (v : Voice) :
    [v.decP2, v.decP1] ++ (decodeBlock m a v).decSamples.toList = blockHistory m a v := by
  have length := (decodeCodes_length (bits (Memory.read m a) 4 4) ((Memory.read m a).extractLsb' 2 2)
    (blockCodes (blockData m a)) v.decP1 v.decP2).trans (blockCodes_blockData_length m a)
  simp [decodeBlock, fixLength, blockHistory, decodeHistory, ← bits_high_nibble, length, Vector.toList]

theorem decodeBlock_decSamples_getElem (m : Memory) (a : Addr) (v : Voice) (k : Fin 16) :
    (decodeBlock m a v).decSamples[k] = (blockHistory m a v).getD (k + 2) 0 := by
  rw [← decodeBlock_history]
  simp

theorem decodeBlock_decHistory (m : Memory) (a : Addr) (v : Voice) :
    ((decodeBlock m a v).decP1, (decodeBlock m a v).decP2) =
      ((blockHistory m a v).getD 17 0, (blockHistory m a v).getD 16 0) := by
  have last := decodeCodes_history (bits (Memory.read m a) 4 4) ((Memory.read m a).extractLsb' 2 2)
    (blockCodes (blockData m a)) v.decP1 v.decP2
  rw [bits_high_nibble, blockCodes_blockData_length] at last
  rw [blockHistory, ← last, ← bits_high_nibble]
  rfl

/-- Sample `k` of a block, from its code and the two samples before it. -/
theorem decodeBlock_decSamples_eq (m : Memory) (a : Addr) (v : Voice) (k : Fin 16) :
    (decodeBlock m a v).decSamples[k] =
      decodeSample ((Memory.read m a).toNat / 16) ((Memory.read m a).extractLsb' 2 2)
        ((Memory.read m (a + 1 + BitVec.ofNat 16 (k.val / 2))).extractLsb' (if k.val % 2 = 0 then 4 else 0) 4).toInt
        ((blockHistory m a v).getD (k + 1) 0) ((blockHistory m a v).getD k 0) := by
  have hk : k.val < (blockCodes (blockData m a)).length := by rw [blockCodes_blockData_length]; exact k.isLt
  rw [decodeBlock_decSamples_getElem, ← blockCodes_blockData_getD]
  exact decodeHistory_getD _ _ _ _ _ hk

/-- Settles O34: the samples and the new history are entries of `blockHistory`, which follows R134's recurrence. -/
theorem blockSamplesFollowTheirHistory : Obligations.BlockSamplesFollowTheirHistory := by
  intro m a v u header history
  have hist : history = blockHistory m a v := decodeBlock_history m a v
  obtain ⟨newest, older⟩ := Prod.mk.inj (decodeBlock_decHistory m a v)
  refine ⟨rfl, rfl, rfl, ?_, ?_, fun k => ?_⟩
  · exact newest.trans (decodeBlock_decSamples_getElem m a v 15).symm
  · exact older.trans (decodeBlock_decSamples_getElem m a v 14).symm
  · have sample := decodeBlock_decSamples_eq m a v k
    rw [hist]
    refine ⟨?_, ?_, sample⟩
    · rw [sample]; exact decodeSample_even ..
    · rw [sample]; exact decodeSample_inSample ..

end Sys2Proof.Machine
end

section
/-! PROOFS. The envelope step (41_envelope.md): the value and the rate of each mode and configuration, the tests that move
the mode, the range of the level, and the fall of Release. -/

namespace Sys2Proof.Machine

variable {v : Voice} {c : Nat}

/-! ## The fields of the envelope registers (30_encoding.md R95, R97) -/

theorem bits_eq_div_mod (b : Byte) (lo len : Nat) : bits b lo len = b.toNat / 2 ^ lo % 2 ^ len := by
  rw [bits, BitVec.extractLsb'_toNat, Nat.shiftRight_eq_div_pow]

theorem adsrEnabled_eq (v : Voice) : adsrEnabled v = v.regs.adsr1.getLsbD 7 := BitVec.msb_eq_getLsbD_last _

theorem attackRate_eq (v : Voice) : attackRate v = v.regs.adsr1.toNat % 16 * 2 + 1 := by
  simp only [attackRate, bits_eq_div_mod, Nat.pow_zero, Nat.div_one, Nat.reducePow]

theorem decayRate_eq (v : Voice) : decayRate v = v.regs.adsr1.toNat / 16 % 8 * 2 + 16 := by
  simp only [decayRate, bits_eq_div_mod, Nat.reducePow]

theorem sustainRate_eq (v : Voice) : sustainRate v = v.regs.adsr2.toNat % 32 := by
  simp only [sustainRate, bits_eq_div_mod, Nat.pow_zero, Nat.div_one, Nat.reducePow]

theorem gainRate_eq (v : Voice) : gainRate v = v.regs.gain.toNat % 32 := by
  simp only [gainRate, bits_eq_div_mod, Nat.pow_zero, Nat.div_one, Nat.reducePow]

theorem gainDirect_iff (v : Voice) : gainDirect v = true ↔ v.regs.gain.toNat < 128 := by
  simp [gainDirect, BitVec.msb_eq_decide]

theorem gainTarget_of_direct (h : gainDirect v = true) : gainTarget v = v.regs.gain.toNat * 16 := by
  have small := (gainDirect_iff v).mp h
  simp only [gainTarget, bits_eq_div_mod]; omega

/-- GAIN 100 to 111 in bits 7:5 select the four ramps. -/
theorem gainRamp_of_div {k : Nat} (h : v.regs.gain.toNat / 32 = k + 4) : gainDirect v = false ∧ gainRamp v = k := by
  have byte := v.regs.gain.isLt
  refine ⟨Bool.eq_false_iff.mpr fun direct => ?_, ?_⟩
  · have small := (gainDirect_iff v).mp direct
    omega
  · simp only [gainRamp, bits_eq_div_mod]; omega

/-! ## The step, field by field (R154) -/

theorem envTick_of_release (h : v.envMode = .release) : envTick c v = { v with envLevel := v.envLevel - 8 } := if_pos h

section OutsideRelease

variable (h : v.envMode ≠ .release)
include h

theorem envTick_of_ne_release :
    envTick c v = { v with
      envMode := attackTest (sustainTest v (envNext v)) (envNext v)
      envHidden := envNext v
      envLevel := if counterFires c (envRate v) then envClamp (envNext v) else v.envLevel } := if_neg h

theorem envTick_envHidden : (envTick c v).envHidden = envNext v := by rw [envTick_of_ne_release h]

theorem envTick_envMode : (envTick c v).envMode = attackTest (sustainTest v (envNext v)) (envNext v) := by
  rw [envTick_of_ne_release h]

theorem envTick_envLevel :
    (envTick c v).envLevel = if counterFires c (envRate v) then envClamp (envNext v) else v.envLevel := by
  rw [envTick_of_ne_release h]

end OutsideRelease

theorem envClamp_eq (env : Int) : (envClamp env : Int) = max 0 (min env 0x7FF) := by
  unfold envClamp
  split
  · omega
  · split <;> omega

/-- R164, R165: a step commits its clamped value at its own rate. -/
theorem envTick_committed (h : v.envMode ≠ .release) {value : Int} {rate : Nat} (hv : envNext v = value)
    (hr : envRate v = rate) : (envTick c v).envHidden = value ∧ CommittedAt c rate v (envTick c v) := by
  refine ⟨(envTick_envHidden h).trans hv, ?_⟩
  rw [CommittedAt, envTick_envLevel h, envTick_envHidden h, hr]
  split
  · exact envClamp_eq _
  · rfl

/-! ## The value and the rate by mode (R156 to R158) -/

section Adsr

variable (enabled : adsrEnabled v = true)
include enabled

theorem envNext_attack (mode : v.envMode = .attack) :
    envNext v = v.envLevel + (if v.regs.adsr1.toNat % 16 = 15 then 1024 else 32) := by
  have fast : attackRate v < 31 ↔ ¬ v.regs.adsr1.toNat % 16 = 15 := by rw [attackRate_eq]; omega
  simp only [envNext, if_pos enabled, mode, fast, ite_not]

theorem envNext_decay (mode : v.envMode = .decay) : envNext v = exponentialStep v.envLevel := by
  simp only [envNext, if_pos enabled, mode]

theorem envNext_sustain (mode : v.envMode = .sustain) : envNext v = exponentialStep v.envLevel := by
  simp only [envNext, if_pos enabled, mode]

theorem envRate_attack (mode : v.envMode = .attack) : envRate v = v.regs.adsr1.toNat % 16 * 2 + 1 := by
  simp only [envRate, if_pos enabled, mode, attackRate_eq]

theorem envRate_decay (mode : v.envMode = .decay) : envRate v = v.regs.adsr1.toNat / 16 % 8 * 2 + 16 := by
  simp only [envRate, if_pos enabled, mode, decayRate_eq]

theorem envRate_sustain (mode : v.envMode = .sustain) : envRate v = v.regs.adsr2.toNat % 32 := by
  simp only [envRate, if_pos enabled, mode, sustainRate_eq]

end Adsr

/-! ## The value and the rate by GAIN configuration (R159 to R161) -/

section Gain

variable (disabled : adsrEnabled v = false)
include disabled

theorem envNext_gain : envNext v = if gainDirect v then (gainTarget v : Int)
    else if gainRamp v = 0 then v.envLevel - 32
    else if gainRamp v = 1 then exponentialStep v.envLevel
    else if gainRamp v = 2 then v.envLevel + 32
    else v.envLevel + (if belowBend v.envHidden then 32 else 8) := if_neg (by simp [disabled])

theorem envRate_gain : envRate v = if gainDirect v then 31 else gainRate v := if_neg (by simp [disabled])

/-- R159: the direct mode. -/
theorem envTick_direct (h : v.envMode ≠ .release) (small : v.regs.gain.toNat < 128) :
    (envTick c v).envHidden = v.regs.gain.toNat * 16 ∧ CommittedAt c 31 v (envTick c v) := by
  have direct := (gainDirect_iff v).mpr small
  refine envTick_committed h ?_ ?_
  · rw [envNext_gain disabled, if_pos direct, gainTarget_of_direct direct, Nat.cast_mul, Nat.cast_ofNat]
  · rw [envRate_gain disabled, if_pos direct]

/-- R160, R161: a ramp steps by its own kind, at the rate of GAIN[4:0]. -/
theorem envTick_ramp (h : v.envMode ≠ .release) {k : Nat} (hk : v.regs.gain.toNat / 32 = k + 4) {value : Int}
    (hv : (if k = 0 then (v.envLevel : Int) - 32
      else if k = 1 then exponentialStep v.envLevel
      else if k = 2 then v.envLevel + 32
      else v.envLevel + (if belowBend v.envHidden then 32 else 8)) = value) :
    (envTick c v).envHidden = value ∧ CommittedAt c (v.regs.gain.toNat % 32) v (envTick c v) := by
  obtain ⟨direct, ramp⟩ := gainRamp_of_div hk
  have notDirect : ¬ gainDirect v = true := by simp [direct]
  refine envTick_committed h ?_ ?_
  · rw [envNext_gain disabled, if_neg notDirect, ramp]; exact hv
  · rw [envRate_gain disabled, if_neg notDirect, gainRate_eq]

end Gain

/-- Settles O35: outside Release the step is `envTick_committed` at the value and the rate of its mode or GAIN
configuration. -/
theorem envelopeStepsByModeAndConfiguration : Obligations.EnvelopeStepsByModeAndConfiguration := by
  intro c v h
  refine ⟨by rw [envTick_of_ne_release h], fun en => ?_, fun dis => ?_⟩
  · rw [← adsrEnabled_eq] at en
    exact ⟨fun m => envTick_committed h (envNext_attack en m) (envRate_attack en m),
      fun m => envTick_committed h (envNext_decay en m) (envRate_decay en m),
      fun m => envTick_committed h (envNext_sustain en m) (envRate_sustain en m)⟩
  · rw [← adsrEnabled_eq] at dis
    refine ⟨envTick_direct dis h, fun hk => envTick_ramp dis h (k := 0) hk rfl, fun hk => envTick_ramp dis h (k := 1) hk rfl,
      fun hk => envTick_ramp dis h (k := 2) hk rfl, fun hk => envTick_ramp dis h (k := 3) hk ?_⟩
    simp [belowBend]

/-! ## The mode after a step (R163, R164) -/

/-- SL: the level of the sustain test, bits 7:5 of the register of the configuration in force. -/
theorem sustainLevel_eq (v : Voice) :
    (bits (envData v) 5 3 : Int) =
      (if v.regs.adsr1.getLsbD 7 then v.regs.adsr2.toNat else v.regs.gain.toNat : Nat) / 32 := by
  have level : bits (envData v) 5 3 = (envData v).toNat / 32 := by
    have byte := (envData v).isLt
    rw [bits_eq_div_mod]; omega
  rw [level, envData, adsrEnabled_eq, apply_ite BitVec.toNat, Int.natCast_ediv, Nat.cast_ofNat]

theorem attackTest_of_ne {mode : EnvMode} (h : mode ≠ .attack) (env : Int) : attackTest mode env = mode :=
  if_neg fun ⟨_, e⟩ => h e

theorem sustainTest_of_ne (h : v.envMode ≠ .decay) (env : Int) : sustainTest v env = v.envMode :=
  if_neg fun ⟨e, _⟩ => h e

theorem envTick_envMode_attack (h : v.envMode = .attack) :
    (envTick c v).envMode = if envOverflow (envTick c v).envHidden then .decay else .attack := by
  have out : v.envMode ≠ .release := by simp [h]
  rw [envTick_envMode out, envTick_envHidden out, sustainTest_of_ne (by simp [h]), h]
  simp [attackTest]

theorem envTick_envMode_decay (h : v.envMode = .decay) :
    (envTick c v).envMode =
      if (envTick c v).envHidden >>> 8 = (bits (envData v) 5 3 : Int) then .sustain else .decay := by
  have out : v.envMode ≠ .release := by simp [h]
  have tested : sustainTest v (envNext v) =
      if (envNext v) >>> 8 = (bits (envData v) 5 3 : Int) then .sustain else .decay := by simp [sustainTest, h]
  rw [envTick_envMode out, envTick_envHidden out, tested, attackTest_of_ne (by split <;> simp)]

theorem envTick_envMode_sustain (h : v.envMode = .sustain) : (envTick c v).envMode = .sustain := by
  have out : v.envMode ≠ .release := by simp [h]
  rw [envTick_envMode out, sustainTest_of_ne (by simp [h]), h, attackTest_of_ne (by simp)]

/-- Settles O36: neither test asks whether the rate fires, and each reads the value the step leaves in `env_hidden`. -/
theorem envelopeModesAdvance : Obligations.EnvelopeModesAdvance := by
  intro c v
  refine ⟨fun h past => ?_, fun h low high => ?_, fun h eq => ?_, fun h ne => ?_, envTick_envMode_sustain⟩
  · rw [envTick_envMode_attack h, if_pos (by simp [envOverflow, past])]
  · rw [envTick_envMode_attack h, if_neg (by simp [envOverflow]; omega)]
  · rw [envTick_envMode_decay h, sustainLevel_eq, if_pos eq]
  · rw [envTick_envMode_decay h, sustainLevel_eq, if_neg ne]

/-! ## The range (R162, R166) -/

theorem envTick_envLevel_le (h : v.envLevel ≤ 2047) : (envTick c v).envLevel ≤ 2047 := by
  by_cases released : v.envMode = .release
  · rw [envTick_of_release released]; exact (Nat.sub_le _ _).trans h
  · rw [envTick_envLevel released]
    split
    · exact envClamp_le _
    · exact h

/-- Settles O37: a committed level is clamped, a level kept or lowered stays, and the hidden value is `envNext`'s. -/
theorem envelopeStaysInRange : Obligations.EnvelopeStaysInRange :=
  fun _ _ h => ⟨envTick_envLevel_le h, fun out => (envTick_envHidden out).symm ▸ envNext_range h⟩

/-! ## Release (R155) -/

theorem foldl_envTick_of_release (h : v.envMode = .release) (counters : List Nat) :
    counters.foldl (fun u c => envTick c u) v = { v with envLevel := v.envLevel - 8 * counters.length } := by
  induction counters generalizing v with
  | nil => rfl
  | cons c rest ih =>
    rw [List.foldl_cons, envTick_of_release h, ih (v := { v with envLevel := v.envLevel - 8 }) h, List.length_cons,
      Nat.mul_succ, Nat.add_comm, Nat.sub_add_eq]

theorem envTick_keeps_release (h : v.envMode = .release) : (envTick c v).envMode = .release := by
  rw [envTick_of_release h]; exact h

end Sys2Proof.Machine
end

section
/-! PROOFS. A property of one voice through the port operations: it holds after an operation when each tick, the effect after
the flush, the writes of a LOAD and the reset keep it. -/

namespace Sys2Proof.Machine

variable {P : Voice → Prop} {s : State} {v : VoiceId}

/-! ## The updates -/

theorem State.setVoice_keeps_voice (h : P s.voices[v]) (i : VoiceId) {x : Voice} (hx : P s.voices[i] → P x) :
    P (s.setVoice i x).voices[v] := by
  rw [State.setVoice_getElem]
  split
  · rename_i same
    exact hx (same ▸ h)
  · exact h

theorem State.updateVoice_keeps_voice (h : P s.voices[v]) (i : VoiceId) {f : Voice → Voice} (hf : ∀ {x}, P x → P (f x)) :
    P (s.updateVoice i f).voices[v] := State.setVoice_keeps_voice h i hf

theorem State.forMask_keeps_voice (h : P s.voices[v]) (mask : Byte) {f : VoiceId → State → State}
    (hf : ∀ i t, maskBit mask i = true → P t.voices[v] → P (f i t).voices[v]) : P (s.forMask mask f).voices[v] := by
  refine foldl_keeps (fun t : State => P t.voices[v]) (fun t i => if maskBit mask i then f i t else t) (fun t i ht => ?_)
    voiceIds s h
  split
  · exact hf i t (by assumption) ht
  · exact ht

/-! ## The tick and the flush -/

theorem flgSiliconEffects_keeps_voice (soft : ∀ {x}, P x → P (softResetVoice x)) (h : P s.voices[v]) :
    P (flgSiliconEffects s).voices[v] := by
  unfold flgSiliconEffects
  split
  · exact foldl_keeps (fun t : State => P t.voices[v]) (fun t i => t.updateVoice i softResetVoice)
      (fun t i ht => State.updateVoice_keeps_voice ht i soft) voiceIds s h
  · exact h

theorem renderVoices_keeps_voice
    (render : ∀ (t : State) (i : VoiceId) (hIn : Sample) (anysolo : Bool),
      P t.voices[i] → P (renderVoice t i hIn anysolo).voice) (h : P s.voices[v]) : P (renderVoices s).1.voices[v] :=
  foldl_keeps (fun y : State × Mix => P y.1.voices[v]) (renderStep (anySolo s))
    (fun y i hy => State.setVoice_keeps_voice hy i (render y.1 i y.2.h (anySolo s))) voiceIds (s, Mix.start) h

/-- A tick reaches a voice by the soft reset of step 0 and by its render. -/
theorem tick_keeps_voice (soft : ∀ {x}, P x → P (softResetVoice x))
    (render : ∀ (t : State) (i : VoiceId) (hIn : Sample) (anysolo : Bool),
      P t.voices[i] → P (renderVoice t i hIn anysolo).voice) (h : P s.voices[v]) : P (tick s).voices[v] := by
  have start : P (noiseStep (flgSiliconEffects s)).voices[v] := by
    rw [noiseStep_voices]; exact flgSiliconEffects_keeps_voice soft h
  rw [tick_voices]
  exact renderVoices_keeps_voice render start

section Operations

variable (tick_keeps : ∀ t : State, P t.voices[v] → P (tick t).voices[v])
include tick_keeps

theorem flush_keeps_voice (h : P s.voices[v]) : P (flush s).voices[v] :=
  runTicks_keeps (fun t => P t.voices[v]) tick_keeps (fun _ ht => ht) _ (s.setFlushing true) h

theorem afterFlush_synced_keeps_voice (h : P s.voices[v]) {finish : State → State}
    (hf : ∀ t : State, P t.voices[v] → P (finish t).voices[v]) : P (afterFlush finish s.synced).voices[v] := by
  have flushed : P s.synced.voices[v] := by
    unfold State.synced
    split
    · exact h
    · exact flush_keeps_voice tick_keeps h
  by_cases ok : s.synced.fault = none
  · rw [afterFlush_of_ok finish _ ok]; exact hf _ flushed
  · rw [afterFlush_of_fault finish _ ok]; exact flushed

theorem loadWrites_keeps_voice (data : Vector Byte 128) (l : List Nat)
    (writes : ∀ a ∈ l, ∀ t : State, P t.voices[v] →
      P (writeEffect (BitVec.ofNat 8 a) (data.toList.getD a 0) t).voices[v])
    (h : P s.voices[v]) : P (loadWrites data l s).voices[v] := by
  induction l generalizing s with
  | nil => exact h
  | cons a rest ih =>
    obtain ⟨first, later⟩ := List.forall_mem_cons.mp writes
    have written : P (registerWrite (BitVec.ofNat 8 a) (data.toList.getD a 0) s).voices[v] :=
      afterFlush_synced_keeps_voice tick_keeps h first
    rw [loadWrites]
    split
    · exact written
    · exact ih later written

theorem exec_keeps_voice {i : Instr} {t : State}
    (effect : ∀ f, accessEffect i = some f → ∀ t : State, P t.voices[v] → P (f t).voices[v])
    (load : ∀ data, i = .load data → ∀ a ∈ loadOrder, ∀ t : State, P t.voices[v] →
      P (writeEffect (BitVec.ofNat 8 a) (data.toList.getD a 0) t).voices[v])
    (reset : i = .reset → P Voice.reset) (he : exec i s = .next t) (h : P s.voices[v]) : P t.voices[v] := by
  rcases exec_cases i s t he with ⟨hi, rfl⟩ | ⟨-, rfl⟩ | ⟨-, -, rfl⟩ | ⟨-, hok⟩
  · have e : s.resetCore.voices[v] = Voice.reset := by simp [State.resetCore, State.reset]
    exact e ▸ reset hi
  · exact h
  · exact h
  · rcases hok with ⟨f, hi, rfl⟩ | ⟨n, -, rfl⟩ | ⟨-, rfl⟩ | ⟨data, hi, rfl⟩ | ⟨n, -, rfl⟩ | ⟨-, rfl⟩ | ⟨-, rfl⟩
    · exact afterFlush_synced_keeps_voice tick_keeps h (effect f hi)
    · exact h
    · exact flush_keeps_voice tick_keeps h
    · exact loadWrites_keeps_voice tick_keeps data loadOrder (load data hi) h
    · exact h
    · exact h
    · exact h

end Operations

end Sys2Proof.Machine
end

section
/-! PROOFS. Release is left only by key-on (41_envelope.md R155), and the obligation `ReleaseFallsByEightUntilKeyOn`. -/

namespace Sys2Proof.Machine

/-! ## Release through a tick -/

section Voice

variable {x : Voice} (h : x.envMode = .release)
include h

/-- The end of a sample that does not loop sets Release (42_voice.md R194); no block ends it. -/
theorem nextBlock_keeps_release (m : Memory) (dir : Byte) : (nextBlock m dir x).envMode = .release := by
  unfold nextBlock
  extract_lets u
  change u.envMode = .release
  unfold u
  split
  · show (if x.decLoop then x.envMode else .release) = .release
    rw [h, ite_self]
  · exact h

theorem advanceOne_keeps_release (m : Memory) (dir : Byte) : (advanceOne m dir x).envMode = .release := by
  unfold advanceOne
  extract_lets _ u
  split
  · exact nextBlock_keeps_release (x := u) h m dir
  · exact h

theorem advanceMany_keeps_release (m : Memory) (dir : Byte) (n : Nat) : (advanceMany m dir n x).envMode = .release := by
  induction n generalizing x with
  | zero => exact h
  | succ n ih => exact ih (advanceOne_keeps_release h m dir)

theorem advance_keeps_release (m : Memory) (dir : Byte) (p : Nat) : (advance m dir p x).envMode = .release :=
  advanceMany_keeps_release (x := { x with phase := x.phase + p }) h m dir _

end Voice

/-- Voice `v` is in Release. -/
def Released (v : VoiceId) (s : State) : Prop := s.voices[v].envMode = .release

variable {s t : State} {v : VoiceId}

theorem Released.tick (h : Released v s) : Released v (tick s) :=
  tick_keeps_voice (P := fun x => x.envMode = .release) (fun _ => rfl)
    (fun _ _ _ _ hx => envTick_keeps_release (advance_keeps_release hx _ _ _)) h

/-! ## Release through the effects of the operations -/

theorem Released.answer (h : Released v s) (r : Response) : Released v (s.answer r) := h

theorem Released.updateVoice (h : Released v s) (i : VoiceId) {f : Voice → Voice}
    (hf : ∀ {x : Voice}, x.envMode = .release → (f x).envMode = .release) : Released v (s.updateVoice i f) :=
  State.updateVoice_keeps_voice (P := fun x => x.envMode = .release) h i hf

/-- KON keys on the voices of its mask (45_register_port.md R281). -/
theorem Released.writeKon (h : Released v s) {d : Byte} (hd : ¬ maskBit d v = true) : Released v (writeKon d s) := by
  refine State.forMask_keeps_voice (P := fun x => x.envMode = .release)
    (s := { s with regs := { s.regs with konCache := d } }) h d fun i t hi ht => ?_
  have other : v ≠ i := fun same => hd (same ▸ hi)
  rw [keyOn, State.updateVoice_getElem, if_neg other]
  exact ht

theorem Released.writeKoff (h : Released v s) (d : Byte) : Released v (writeKoff d s) :=
  State.forMask_keeps_voice (P := fun x => x.envMode = .release)
    (s := { s with regs := { s.regs with koffCache := d } }) h d fun i _ _ ht => Released.updateVoice ht i fun _ => rfl

theorem Released.writeEndx (h : Released v s) : Released v (writeEndx s) :=
  foldl_keeps (Released v) (fun t i => t.updateVoice i fun x => { x with endx := false })
    (fun _ i ht => ht.updateVoice i fun hx => hx) voiceIds s h

/-- After its flush an operation reads, writes bytes and flags beside the envelope, or keys voices on or off. -/
theorem Released.accessEffect (h : Released v s) {i : Instr} {f : State → State} (hi : accessEffect i = some f)
    (key : ¬ keysOn v i) : Released v (f s) := by
  cases i
  case rdVoll | rdVolr | rdPitchl | rdPitchh | rdSrcn | rdAdsr1 | rdAdsr2 | rdGain | rdEnvx | rdOutx | rdUnusedXA |
      rdUnusedXB | rdUnusedXE | rdFir | rdMvoll | rdMvolr | rdEvoll | rdEvolr | rdKon | rdKoff | rdFlg | rdEndx | rdEfb |
      rdUnused1D | rdPmon | rdNon | rdEon | rdDir | rdEsa | rdEdl | wrEnvx | wrOutx | wrUnusedXA | wrUnusedXB |
      wrUnusedXE | wrUnused1D | wrFir | wrMvoll | wrMvolr | wrEvoll | wrEvolr | wrFlg | wrEfb | wrPmon | wrNon | wrEon |
      wrDir | wrEsa | wrEdl =>
    cases hi; exact h
  case wrVoll | wrVolr | wrPitchl | wrPitchh | wrSrcn | wrAdsr1 | wrAdsr2 | wrGain | vctl =>
    cases hi; refine Released.answer (h.updateVoice _ ?_) _; exact fun hx => hx
  case wrKon => cases hi; exact (h.writeKon key).answer _
  case wrKoff => cases hi; exact (h.writeKoff _).answer _
  case wrEndx => cases hi; exact h.writeEndx.answer _
  case rdHigh | wrHigh | cyc | flush | load | pull | reset | reserved => cases hi

/-! ## LOAD -/

theorem address_eq_kon : ∀ a : Byte, a.msb = false → selectField a = 0xC → voiceField a = 4 → a = 0x4C := by decide

theorem decodeWriteC_keysOn {row : VoiceId} {d : Byte} (h : keysOn v (decodeWriteC row d)) :
    row = 4 ∧ maskBit d v = true := by
  fin_cases row
  exacts [h.elim, h.elim, h.elim, h.elim, ⟨rfl, h⟩, h.elim, h.elim, h.elim]

theorem decodeWriteD_not_keysOn (row : VoiceId) (d : Byte) : ¬ keysOn v (decodeWriteD row d) := by
  fin_cases row <;> exact id

/-- The one register write that keys voices on is that of KON (30_encoding.md R92). -/
theorem decodeWrite_keysOn {a d : Byte} (h : keysOn v (decodeWrite a d)) : a = 0x4C ∧ maskBit d v = true := by
  by_cases high : a.msb = true
  · rw [decodeWrite, if_pos high] at h; exact h.elim
  · rw [decodeWrite, if_neg high] at h
    have low : a.msb = false := Bool.eq_false_iff.mpr high
    by_cases hC : selectField a = 0xC
    · rw [hC] at h
      obtain ⟨row, set⟩ := decodeWriteC_keysOn h
      exact ⟨address_eq_kon a low hC row, set⟩
    · exfalso
      revert h hC
      generalize voiceField a = row, selectField a = x
      obtain ⟨x⟩ := x
      fin_cases x
      exacts [fun h _ => h, fun h _ => h, fun h _ => h, fun h _ => h, fun h _ => h, fun h _ => h, fun h _ => h,
        fun h _ => h, fun h _ => h, fun h _ => h, fun h _ => h, fun h _ => h, fun _ hC => hC rfl,
        fun h _ => decodeWriteD_not_keysOn row d h, fun h _ => h, fun h _ => h]

/-- The KON write of a LOAD has the byte of its snapshot (46_host_port.md R352). -/
theorem loadOrder_write_keysOn {data : Vector Byte 128} {a : Nat} (ha : a ∈ loadOrder)
    (h : keysOn v (decodeWrite (BitVec.ofNat 8 a) (data.toList.getD a 0))) : keysOn v (.load data) := by
  obtain ⟨kon, set⟩ := decodeWrite_keysOn h
  have lt : a < 128 := by simp [loadOrder] at ha; omega
  have address : a = 0x4C := by bv_omega
  subst address
  simpa [keysOn, maskBit] using set

theorem Released.exec (h : Released v s) {i : Instr} (he : exec i s = .next t) (key : ¬ keysOn v i) : Released v t := by
  refine exec_keeps_voice (P := fun x => x.envMode = .release) (fun _ => Released.tick)
    (fun f hi _ hu => Released.accessEffect hu hi key) (fun data hi a ha u hu => ?_) (fun _ => rfl) he h
  subst hi
  exact Released.accessEffect (f := fun t => (writeEffect _ _ t).answer .nothing) hu
    (accessEffect_decodeWrite _ _ (loadOrder_low a ha)) fun hk => key (loadOrder_write_keysOn ha hk)

/-- Settles O38: the fall is `foldl_envTick_of_release`, and `Released.exec` says that only key-on ends Release. -/
theorem releaseFallsByEightUntilKeyOn : Obligations.ReleaseFallsByEightUntilKeyOn := by
  refine ⟨fun v counters h => ?_, fun _ _ _ _ he h key => Released.exec h he key⟩
  rw [foldl_envTick_of_release h]
  exact ⟨rfl, fun full long => by simp [full, long], fun full long => by simp [full, long]⟩

end Sys2Proof.Machine
end

section
/-! PROOFS. What a voice gives in one tick (42_voice.md R180 to R189, R195 to R200): the effective pitch, the Gaussian kernel
and its default table, and the scaling of a render; the obligations `PitchIsModulatedAndClamped`,
`GaussianInterpolationIsEvenAndSaturates`, `GaussTableIsMonotoneAndNormalized` and `RenderScalesByEnvelopeAndVolume`. -/

namespace Sys2Proof.Machine

/-! ## The effective pitch (R182 to R184) -/

section Pitch

variable {pmon : Byte} {i : VoiceId} {v : Voice} {h : Sample}

theorem basePitch_eq (v : Voice) : basePitch v = v.regs.pitchH.toNat % 64 * 256 + v.regs.pitchL.toNat := by
  simp only [basePitch, bits_eq_div_mod, Nat.pow_zero, Nat.div_one, Nat.reducePow]

theorem basePitch_le (v : Voice) : basePitch v ≤ 0x3FFF := by
  have low := v.regs.pitchL.isLt
  rw [basePitch_eq]; omega

/-- A 16-bit hand-off shifted by 5 is at least -1024, so modulation takes off at most the base pitch itself. -/
theorem modulatedPitch_nonneg (v : Voice) (hh : InSample h) : 0 ≤ (basePitch v : Int) + (((h >>> 5) * basePitch v) >>> 10) := by
  obtain ⟨lower, -⟩ := hh
  have shifted : -1024 ≤ h >>> 5 := by rw [shiftRight_eq_div h 5 5 rfl]; simp only [Sample] at *; omega
  have product : -1024 * (basePitch v : Int) ≤ (h >>> 5) * basePitch v :=
    Int.mul_le_mul_of_nonneg_right shifted (Int.natCast_nonneg _)
  rw [shiftRight_eq_div _ 10 10 rfl]; omega

theorem effectivePitch_le (pmon : Byte) (i : VoiceId) (v : Voice) (h : Sample) : effectivePitch pmon i v h ≤ 0x3FFF := by
  unfold effectivePitch
  extract_lets p0 p
  omega

theorem effectivePitch_of_unmodulated (hm : i = 0 ∨ maskBit pmon i = false) :
    effectivePitch pmon i v h = basePitch v := by
  have le := basePitch_le v
  have off : ¬ (i ≠ 0 ∧ maskBit pmon i = true) := by rcases hm with rfl | clear <;> simp [*]
  simp only [effectivePitch, if_neg off]
  omega

theorem effectivePitch_of_modulated (hm : i ≠ 0 ∧ maskBit pmon i = true) (hh : InSample h) :
    (effectivePitch pmon i v h : Int) = min ((basePitch v : Int) + (((h >>> 5) * basePitch v) >>> 10)) 0x3FFF := by
  have nonneg := modulatedPitch_nonneg v hh
  simp only [effectivePitch, if_pos hm]
  omega

end Pitch

/-- Settles O26: the two cases of `effectivePitch`, and that modulation never leaves a negative pitch to be cut off. -/
theorem pitchIsModulatedAndClamped : Obligations.PitchIsModulatedAndClamped := by
  intro pmon i v h hh p0
  have base : p0 = basePitch v := by rw [basePitch_eq]
  rw [base]
  exact ⟨effectivePitch_le pmon i v h, fun off => congrArg _ (effectivePitch_of_unmodulated off),
    fun on => ⟨modulatedPitch_nonneg v hh, effectivePitch_of_modulated on hh⟩⟩

/-! ## The Gaussian kernel (R188) -/

theorem clearBit0_even (x : Sample) : clearBit0 x % 2 = 0 := by
  simp only [clearBit0, Sample]; omega

theorem interpolate_gaussian {p : Params} (h : p.kernel = .gaussian) (v : Voice) :
    interpolate p v = interpolateGaussian p.gaussTable v.window v.phase := by
  rw [interpolate, h]

/-- The kernel reads the phase only through its bits 11:4. -/
theorem interpolateGaussian_congr (t : GaussTable) (w : Window) {a b : Nat} (h : a / 16 % 256 = b / 16 % 256) :
    interpolateGaussian t w a = interpolateGaussian t w b := by
  simp only [interpolateGaussian, Nat.shiftRight_eq_div_pow, Nat.reducePow, h]

/-- Settles O28: the sum is that of the model's kernel, and what clears bit 0 of a saturated value is even and in range. -/
theorem gaussianInterpolationIsEvenAndSaturates : Obligations.GaussianInterpolationIsEvenAndSaturates := by
  intro p v h o term sum
  have value : interpolate p v = clearBit0 (clamp16 sum) := by
    rw [interpolate_gaussian h, interpolateGaussian, Nat.shiftRight_eq_div_pow]
  refine ⟨value, ?_, interpolate_inSample p v, ?_⟩
  · rw [value]; exact clearBit0_even _
  · rw [interpolate_gaussian h, interpolate_gaussian h]
    exact interpolateGaussian_congr _ _ (by simp)

/-! ## The default Gaussian table (R187) -/

/-- A number below `m * n` by its two digits in base `n`, so that a table is checked a row at a time. -/
theorem forall_lt_mul_of_digits {P : Nat → Prop} (m n : Nat) (h : ∀ a < m, ∀ b < n, P (n * a + b)) :
    ∀ i < m * n, P i := by
  intro i hi
  have hn : 0 < n := Nat.pos_of_mul_pos_left (Nat.zero_lt_of_lt hi)
  have digits := h (i / n) (Nat.div_lt_of_lt_mul (Nat.mul_comm m n ▸ hi)) (i % n) (Nat.mod_lt i hn)
  rwa [Nat.div_add_mod] at digits

theorem gaussWeight_standard_step :
    ∀ i < 32 * 16, i < 511 → gaussWeight .standard i ≤ gaussWeight .standard (i + 1) :=
  forall_lt_mul_of_digits 32 16 (by decide)

/-- The four weights of an interpolation at offset `o` (R188). -/
def gaussWeightSum (t : GaussTable) (o : Nat) : Nat :=
  gaussWeight t (255 - o) + gaussWeight t (511 - o) + gaussWeight t (256 + o) + gaussWeight t o

theorem gaussWeightSum_standard : ∀ o < 16 * 16, 2047 ≤ gaussWeightSum .standard o ∧ gaussWeightSum .standard o ≤ 2049 :=
  forall_lt_mul_of_digits 16 16 (by decide)

/-- Settles O29: the table and its sums, read off entry by entry. -/
theorem gaussTableIsMonotoneAndNormalized : Obligations.GaussTableIsMonotoneAndNormalized :=
  ⟨fun i hi => gaussWeight_standard_step i (by omega) hi, by decide, gaussWeightSum_standard⟩

/-! ## The render (R181, R185, R195 to R200) -/

theorem rawSample_eq (s : State) (i : VoiceId) :
    rawSample s i =
      if s.regs.non.getLsbD i then wrap16 (s.noise.toNat * 2 : Nat) else interpolate s.params s.voices[i] := by
  rw [Nat.cast_mul]; rfl

theorem Voice.muted_iff (v : Voice) (anysolo : Bool) :
    v.muted anysolo = true ↔ v.mute = true ∨ (anysolo = true ∧ v.solo = false) := by
  simp [Voice.muted]

theorem Voice.not_muted {v : Voice} {anysolo : Bool} (h : v.mute = false ∧ (anysolo = false ∨ v.solo = true)) :
    ¬ v.muted anysolo = true := by
  rw [Voice.muted_iff]
  rintro (mute | ⟨any, solo⟩) <;> simp_all

theorem signedByte_range (b : Byte) : -128 ≤ signedByte b ∧ signedByte b ≤ 127 := by
  have lower := BitVec.le_toInt b
  have upper := BitVec.toInt_lt (x := b)
  simp only [signedByte]; omega

/-- R198: the upper bound is -32752 times -128, and the lower one is not reached. -/
theorem volumeScale_range {x : Sample} (hx : -32752 ≤ x ∧ x ≤ 32750) (vol : Byte) :
    -32752 ≤ volumeScale x vol ∧ volumeScale x vol ≤ 32752 := by
  obtain ⟨xl, xu⟩ := hx
  obtain ⟨vl, vu⟩ := signedByte_range vol
  have lower : -32752 * 128 ≤ x * signedByte vol := by nlinarith
  have upper : x * signedByte vol ≤ 32752 * 128 := by nlinarith
  rw [volumeScale, shiftRight_eq_div _ 7 7 rfl]
  simp only [Sample] at *
  omega

section Render

variable (s : State) (i : VoiceId) (h : Sample) (anysolo : Bool)

theorem renderVoice_voice :
    (renderVoice s i h anysolo).voice =
      { envTick s.counter (advance s.mem s.regs.dir (effectivePitch s.regs.pmon i s.voices[i] h) s.voices[i]) with
        outEnv := envelopeScale (rawSample s i) s.voices[i].envLevel, lastRaw := rawSample s i } := rfl

theorem renderVoice_hOut :
    (renderVoice s i h anysolo).hOut =
      if s.params.pmonSource = .preEnvelope then rawSample s i
      else envelopeScale (rawSample s i) s.voices[i].envLevel := by
  unfold renderVoice
  cases s.params.pmonSource <;> rfl

theorem renderVoice_l :
    (renderVoice s i h anysolo).l = if s.voices[i].muted anysolo then 0
      else volumeScale (envelopeScale (rawSample s i) s.voices[i].envLevel) s.voices[i].regs.volL := rfl

theorem renderVoice_r :
    (renderVoice s i h anysolo).r = if s.voices[i].muted anysolo then 0
      else volumeScale (envelopeScale (rawSample s i) s.voices[i].envLevel) s.voices[i].regs.volR := rfl

end Render

/-- Settles O27: the fields of a render at the pre-envelope sample as the rules spell it out (`rawSample_eq`). -/
theorem renderScalesByEnvelopeAndVolume : Obligations.RenderScalesByEnvelopeAndVolume := by
  intro s i h anysolo v raw envd out
  have hraw : rawSample s i = raw := rawSample_eq s i
  have henv : envelopeScale (rawSample s i) v.envLevel = envd := by rw [hraw]; rfl
  have voice := renderVoice_voice s i h anysolo
  have hOut := renderVoice_hOut s i h anysolo
  have left := renderVoice_l s i h anysolo
  have right := renderVoice_r s i h anysolo
  rw [henv, hraw] at voice hOut
  rw [henv] at left right
  refine ⟨voice, hraw, henv, clearBit0_even _, hOut, fun audible => ?_, fun silent => ?_, fun level sample => ?_⟩
  · rw [if_neg (Voice.not_muted audible)] at left right
    exact ⟨left, right⟩
  · rw [if_pos ((Voice.muted_iff _ _).mpr silent)] at left right
    exact ⟨left, right⟩
  · obtain ⟨lower, upper, -⟩ := envelopeScale_range sample level
    have scaled : -32752 ≤ envd ∧ envd ≤ 32750 := ⟨lower, upper⟩
    have contribution (vol : Byte) :
        -32752 ≤ (if v.muted anysolo then 0 else volumeScale envd vol) ∧
          (if v.muted anysolo then 0 else volumeScale envd vol) ≤ 32752 := by
      split
      · decide
      · exact volumeScale_range scaled vol
    exact ⟨scaled, left.symm ▸ contribution _, right.symm ▸ contribution _⟩

end Sys2Proof.Machine
end

section
/-! PROOFS. The phase advance (42_voice.md R190 to R194): the crossings inside a block, the one that ends it, and the
obligations `PhaseAdvanceMovesSamples` and `LastSampleFetchesNextBlock`. -/

namespace Sys2Proof.Machine

/-! ## One crossing (R190) -/

/-- The window as a list, oldest sample first. -/
def windowSamples (w : Window) : List Sample := [w.w0, w.w1, w.w2, w.w3]

/-- A crossing without the end of the block: the next sample enters the window, and the phase falls by one sample. -/
def popSample (v : Voice) : Voice :=
  { v with
    phase := v.phase - 0x1000
    window := ⟨v.window.w1, v.window.w2, v.window.w3, decNext v⟩
    decIndex := v.decIndex + 1 }

theorem advanceOne_of_index_ne {m : Memory} {dir : Byte} {v : Voice} (h : v.decIndex + 1 ≠ 16) :
    advanceOne m dir v = popSample v :=
  if_neg (show ¬ decide (v.decIndex + 1 = 16) = true by simp [h])

theorem advanceOne_of_index_eq {m : Memory} {dir : Byte} {v : Voice} (h : v.decIndex + 1 = 16) :
    advanceOne m dir v = nextBlock m dir (popSample v) :=
  if_pos (show decide (v.decIndex + 1 = 16) = true by simp [h])

/-- The window after one more sample is the last four of five. -/
theorem popSample_samples (v : Voice) : windowSamples (popSample v).window = (windowSamples v.window ++ [decNext v]).drop 1 := rfl

/-! ## Several crossings inside one block -/

/-- `n` crossings none of which fetches a block. -/
def popSamples : Nat → Voice → Voice
  | 0, v => v
  | n + 1, v => popSamples n (popSample v)

theorem popSamples_eq (n : Nat) (v : Voice) :
    popSamples n v = { v with
      phase := v.phase - n * 0x1000, window := (popSamples n v).window, decIndex := v.decIndex + n } := by
  induction n generalizing v with
  | zero => simp [popSamples]
  | succ n ih =>
    have phase : v.phase - (n + 1) * 0x1000 = v.phase - 0x1000 - n * 0x1000 := by omega
    rw [popSamples, ih, phase, Nat.add_comm n 1, ← Nat.add_assoc]
    rfl

/-- The samples taken are the block's next ones, as long as it has them; what leaves the window leaves at its front. -/
theorem popSamples_samples (n : Nat) (v : Voice) (h : v.decIndex + n ≤ 16) :
    windowSamples (popSamples n v).window =
      (windowSamples v.window ++ (v.decSamples.toList.drop v.decIndex).take n).drop n := by
  induction n generalizing v with
  | zero => simp only [popSamples, List.take_zero, List.append_nil, List.drop_zero]
  | succ n ih =>
    have left : v.decIndex < v.decSamples.toList.length := by rw [Vector.length_toList]; omega
    have next : decNext v = v.decSamples.toList[v.decIndex] := List.getD_eq_getElem _ _ left
    have taken : (v.decSamples.toList.drop v.decIndex).take (n + 1) =
        [decNext v] ++ (v.decSamples.toList.drop (v.decIndex + 1)).take n := by
      rw [List.drop_eq_getElem_cons left, next]; rfl
    have later := ih (popSample v) (show v.decIndex + 1 + n ≤ 16 by omega)
    rw [popSamples, later, popSample_samples, taken, Nat.add_comm n 1, ← List.drop_drop, ← List.append_assoc]
    rfl

theorem advanceMany_of_inside {m : Memory} {dir : Byte} {n : Nat} {v : Voice} (h : v.decIndex + n < 16) :
    advanceMany m dir n v = popSamples n v := by
  induction n generalizing v with
  | zero => rfl
  | succ n ih =>
    rw [advanceMany, advanceOne_of_index_ne (by omega)]
    exact ih (show v.decIndex + 1 + n < 16 by omega)

/-! ## Crossings over the end of a block (R191 to R194) -/

theorem nextBlock_decIndex (m : Memory) (dir : Byte) (v : Voice) : (nextBlock m dir v).decIndex = 0 := rfl

/-- A fetch decodes the block at the new address with the history as it stands, and writes nothing else but what the end of a
sample writes. -/
theorem nextBlock_eq (m : Memory) (dir : Byte) (v : Voice) :
    nextBlock m dir v = { decodeBlock m (nextBlock m dir v).brrAddr v with
      brrAddr := (nextBlock m dir v).brrAddr, endx := (nextBlock m dir v).endx,
      envMode := (nextBlock m dir v).envMode, envLevel := (nextBlock m dir v).envLevel } := by
  unfold nextBlock
  split <;> rfl

/-- A fetch reads neither the phase, nor the window, nor the decoder index. -/
theorem nextBlock_of_cursor (m : Memory) (dir : Byte) (v : Voice) (phase : Nat) (window : Window) (index : Nat) :
    nextBlock m dir { v with phase := phase, window := window, decIndex := index } =
      { nextBlock m dir v with phase := phase, window := window } := by
  unfold nextBlock
  dsimp only
  split <;> rfl

theorem nextBlock_of_not_end {v : Voice} (h : v.decEnd = false) (m : Memory) (dir : Byte) :
    nextBlock m dir v = decodeBlock m (v.brrAddr + 9) { v with brrAddr := v.brrAddr + 9 } := by
  simp only [nextBlock, h, Bool.false_eq_true, if_false, sequentialBlock]

theorem nextBlock_of_end {v : Voice} (h : v.decEnd = true) (m : Memory) (dir : Byte) :
    nextBlock m dir v = decodeBlock m (loopBlock m dir v).brrAddr (loopBlock m dir v) := by
  simp only [nextBlock, h, if_true]

/-- The loop address is the directory entry's second word, low byte first (20_memory.md R73). -/
theorem loopBlock_brrAddr (m : Memory) (dir : Byte) (v : Voice) :
    (loopBlock m dir v).brrAddr =
      (Memory.read m (directoryEntry dir v.regs.srcn + 3) ++ Memory.read m (directoryEntry dir v.regs.srcn + 2) :
        BitVec 16) := by
  have next : directoryEntry dir v.regs.srcn + 2 + 1 = directoryEntry dir v.regs.srcn + 3 := BitVec.add_assoc _ _ _
  rw [← next]; rfl

section OverEnd

variable {m : Memory} {dir : Byte} {n : Nat} {v : Voice} (hi : v.decIndex < 16) (h : 16 ≤ v.decIndex + n) (hn : n ≤ 16)
include hi h hn

/-- The crossings over the end of a block: the rest of the old block, the fetch, and the start of the new block. -/
theorem advanceMany_over_end :
    advanceMany m dir n v =
      popSamples (v.decIndex + n - 16) (nextBlock m dir (popSamples (16 - v.decIndex) v)) := by
  induction n generalizing v with
  | zero => omega
  | succ n ih =>
    rw [advanceMany]
    by_cases last : v.decIndex + 1 = 16
    · have rest : v.decIndex + (n + 1) - 16 = n := by omega
      have one : 16 - v.decIndex = 1 := by omega
      rw [advanceOne_of_index_eq last, advanceMany_of_inside (by rw [nextBlock_decIndex]; omega), rest, one]
      rfl
    · have rest : v.decIndex + (n + 1) - 16 = (popSample v).decIndex + n - 16 := by
        show _ = v.decIndex + 1 + n - 16; omega
      have more : 16 - v.decIndex = 16 - (popSample v).decIndex + 1 := by
        show _ = 16 - (v.decIndex + 1) + 1; omega
      rw [advanceOne_of_index_ne last, rest, more, popSamples]
      exact ih (show v.decIndex + 1 < 16 by omega) (show 16 ≤ v.decIndex + 1 + n by omega) (by omega)

/-- What they leave, but for the window: the fetch of the voice as it was before them. -/
theorem advanceMany_over_end_eq :
    advanceMany m dir n v = { nextBlock m dir v with
      phase := v.phase - n * 0x1000, window := (advanceMany m dir n v).window, decIndex := v.decIndex + n - 16 } := by
  have phase : v.phase - n * 0x1000 = v.phase - (16 - v.decIndex) * 0x1000 - (v.decIndex + n - 16) * 0x1000 := by omega
  rw [advanceMany_over_end hi h hn, popSamples_eq, popSamples_eq (16 - v.decIndex), nextBlock_of_cursor,
    nextBlock_decIndex, phase, Nat.zero_add]

/-- The samples that enter the window are the rest of the old block and then the first ones of the new. -/
theorem advanceMany_over_end_samples :
    windowSamples (advanceMany m dir n v).window =
      (windowSamples v.window ++ v.decSamples.toList.drop v.decIndex ++
        (nextBlock m dir v).decSamples.toList.take (v.decIndex + n - 16)).drop n := by
  have index : v.decIndex + (16 - v.decIndex) = 16 := by omega
  have fetched := (congrArg (nextBlock m dir) (popSamples_eq (16 - v.decIndex) v)).trans (nextBlock_of_cursor ..)
  have whole : (v.decSamples.toList.drop v.decIndex).take (16 - v.decIndex) = v.decSamples.toList.drop v.decIndex :=
    List.take_of_length_le (by simp)
  have old := popSamples_samples (16 - v.decIndex) v index.le
  have long : 16 - v.decIndex ≤ (windowSamples v.window ++ v.decSamples.toList.drop v.decIndex).length := by simp
  have count : 16 - v.decIndex + (v.decIndex + n - 16) = n := by omega
  rw [whole] at old
  rw [advanceMany_over_end hi h hn, popSamples_samples _ _ (by rw [nextBlock_decIndex]; omega), nextBlock_decIndex,
    List.drop_zero, fetched, old, ← List.drop_append_of_le_length long, List.drop_drop, count]

end OverEnd

/-! ## The advance -/

/-- R190: the phase is below 0x1000 and the pitch at most 0x3FFF, so the new phase has at most four whole samples. -/
theorem crossings_le {phase p : Nat} (hphase : phase < 0x1000) (hp : p ≤ 0x3FFF) : (phase + p) / 0x1000 ≤ 4 := by omega

theorem nextBlock_phase (m : Memory) (dir : Byte) (v : Voice) : (nextBlock m dir v).phase = v.phase := by
  unfold nextBlock
  split <;> rfl

theorem advanceOne_phase (m : Memory) (dir : Byte) (v : Voice) : (advanceOne m dir v).phase = v.phase - 0x1000 := by
  by_cases last : v.decIndex + 1 = 16
  · rw [advanceOne_of_index_eq last, nextBlock_phase]; rfl
  · rw [advanceOne_of_index_ne last]; rfl

theorem advanceMany_phase (m : Memory) (dir : Byte) (n : Nat) (v : Voice) :
    (advanceMany m dir n v).phase = v.phase - n * 0x1000 := by
  induction n generalizing v with
  | zero => simp [advanceMany]
  | succ n ih => rw [advanceMany, ih, advanceOne_phase]; omega

theorem advance_phase (m : Memory) (dir : Byte) (p : Nat) (v : Voice) :
    (advance m dir p v).phase = (v.phase + p) % 0x1000 := by
  rw [advance, advanceMany_phase]
  show v.phase + p - (v.phase + p) / 0x1000 * 0x1000 = _
  omega

/-- Settles O30: the crossings of the new phase (`advance_phase`), and inside the block they are `popSamples`. -/
theorem phaseAdvanceMovesSamples : Obligations.PhaseAdvanceMovesSamples := by
  intro m dir p v hphase hp n u
  refine ⟨crossings_le hphase hp, advance_phase m dir p v, fun inside => ?_⟩
  have pops : u = popSamples n { v with phase := v.phase + p } := advanceMany_of_inside inside
  have fields := popSamples_eq n { v with phase := v.phase + p }
  rw [← pops] at fields
  refine ⟨by rw [fields], ?_⟩
  rw [pops]
  exact popSamples_samples n { v with phase := v.phase + p } inside.le

section PastEnd

variable {m : Memory} {dir : Byte} {p : Nat} {v : Voice} (hi : v.decIndex < 16)
  (past : 16 ≤ v.decIndex + (v.phase + p) / 0x1000) (hn : (v.phase + p) / 0x1000 ≤ 16)
include hi past hn

/-- An advance over the end of a block is the fetch of the voice as it stood, but for the phase, the window and the index. -/
theorem advance_over_end :
    advance m dir p v = { nextBlock m dir v with
      phase := (v.phase + p) % 0x1000, window := (advance m dir p v).window,
      decIndex := v.decIndex + (v.phase + p) / 0x1000 - 16 } := by
  have fields := advanceMany_over_end_eq (m := m) (dir := dir) (v := { v with phase := v.phase + p }) hi past hn
  rw [nextBlock_of_cursor m dir v (v.phase + p) v.window v.decIndex] at fields
  have phase : (advanceMany m dir ((v.phase + p) / 0x1000) { v with phase := v.phase + p }).phase = (v.phase + p) % 0x1000 :=
    advance_phase m dir p v
  rw [advanceMany_phase] at phase
  rw [← phase]
  exact fields

theorem advance_over_end_samples :
    windowSamples (advance m dir p v).window =
      (windowSamples v.window ++ v.decSamples.toList.drop v.decIndex ++
        (nextBlock m dir v).decSamples.toList.take (v.decIndex + (v.phase + p) / 0x1000 - 16)).drop
          ((v.phase + p) / 0x1000) := by
  have samples := advanceMany_over_end_samples (m := m) (dir := dir) (v := { v with phase := v.phase + p }) hi past hn
  rw [nextBlock_of_cursor m dir v (v.phase + p) v.window v.decIndex] at samples
  exact samples

end PastEnd

/-- Settles O31: the fields of `advance_over_end`, and of the fetch by END and LOOP of the block that ends. -/
theorem lastSampleFetchesNextBlock : Obligations.LastSampleFetchesNextBlock := by
  intro m dir p v hphase hp hi n u b entry past
  have hn : n ≤ 4 := crossings_le hphase hp
  have few : n ≤ 16 := hn.trans (by decide)
  have fields : u = { nextBlock m dir v with
      phase := (v.phase + p) % 0x1000, window := u.window, decIndex := v.decIndex + n - 16 } :=
    advance_over_end hi past few
  have addr : u.brrAddr = (nextBlock m dir v).brrAddr := (congrArg Voice.brrAddr fields :)
  have endx : u.endx = (nextBlock m dir v).endx := (congrArg Voice.endx fields :)
  have mode : u.envMode = (nextBlock m dir v).envMode := (congrArg Voice.envMode fields :)
  have level : u.envLevel = (nextBlock m dir v).envLevel := (congrArg Voice.envLevel fields :)
  have block := nextBlock_eq m dir v
  rw [← addr, ← endx, ← mode, ← level] at block
  refine ⟨hn, ?_, ?_, fun goesOn => ?_, fun ends => ?_⟩
  · rw [block] at fields
    exact fields
  · have samples := advance_over_end_samples (m := m) (dir := dir) hi past few
    rw [block] at samples
    exact samples
  · rw [addr, endx, mode, level, nextBlock_of_not_end goesOn]
    exact ⟨rfl, rfl, rfl, rfl⟩
  · rw [addr, endx, mode, level, nextBlock_of_end ends]
    refine ⟨loopBlock_brrAddr m dir v, rfl, fun loops => ?_, fun stops => ?_⟩
    · exact ⟨if_pos loops, if_pos loops⟩
    · have once : ¬ v.decLoop = true := by simp [stops]
      exact ⟨if_neg once, if_neg once⟩

end Sys2Proof.Machine
end

section
/-! PROOFS. The ENDX flag through the operations (42_voice.md R194), and the obligation `EndxIsStickyUntilCleared`. -/

namespace Sys2Proof.Machine

/-! ## ENDX through a tick -/

section Voice

variable {x : Voice} (h : x.endx = true)
include h

/-- A block with END sets the flag, and a block without leaves it. -/
theorem nextBlock_keeps_endx (m : Memory) (dir : Byte) : (nextBlock m dir x).endx = true := by
  cases ends : x.decEnd with
  | true => rw [nextBlock_of_end ends]; rfl
  | false => rw [nextBlock_of_not_end ends]; exact h

theorem advanceOne_keeps_endx (m : Memory) (dir : Byte) : (advanceOne m dir x).endx = true := by
  by_cases last : x.decIndex + 1 = 16
  · rw [advanceOne_of_index_eq last]; exact nextBlock_keeps_endx (x := popSample x) h m dir
  · rw [advanceOne_of_index_ne last]; exact h

theorem advanceMany_keeps_endx (m : Memory) (dir : Byte) (n : Nat) : (advanceMany m dir n x).endx = true := by
  induction n generalizing x with
  | zero => exact h
  | succ n ih => exact ih (advanceOne_keeps_endx h m dir)

theorem advance_keeps_endx (m : Memory) (dir : Byte) (p : Nat) : (advance m dir p x).endx = true :=
  advanceMany_keeps_endx (x := { x with phase := x.phase + p }) h m dir _

theorem envTick_keeps_endx (counter : Nat) : (envTick counter x).endx = true := by
  unfold envTick
  split <;> exact h

end Voice

/-- Voice `v`'s ENDX flag is set. -/
def EndxSet (v : VoiceId) (s : State) : Prop := s.voices[v].endx = true

variable {s t : State} {v : VoiceId}

theorem EndxSet.tick (h : EndxSet v s) : EndxSet v (tick s) :=
  tick_keeps_voice (P := fun x => x.endx = true) (fun hx => hx)
    (fun _ _ _ _ hx => envTick_keeps_endx (advance_keeps_endx hx _ _ _) _) h

/-! ## ENDX through the effects of the operations -/

theorem EndxSet.answer (h : EndxSet v s) (r : Response) : EndxSet v (s.answer r) := h

theorem EndxSet.updateVoice (h : EndxSet v s) (i : VoiceId) {f : Voice → Voice}
    (hf : ∀ {x : Voice}, x.endx = true → (f x).endx = true) : EndxSet v (s.updateVoice i f) :=
  State.updateVoice_keeps_voice (P := fun x => x.endx = true) h i hf

/-- KON clears the flags of the voices of its mask only (45_register_port.md R281). -/
theorem EndxSet.writeKon (h : EndxSet v s) {d : Byte} (hd : ¬ maskBit d v = true) : EndxSet v (writeKon d s) := by
  refine State.forMask_keeps_voice (P := fun x => x.endx = true)
    (s := { s with regs := { s.regs with konCache := d } }) h d fun i t hi ht => ?_
  have other : v ≠ i := fun same => hd (same ▸ hi)
  rw [keyOn, State.updateVoice_getElem, if_neg other]
  exact ht

theorem EndxSet.writeKoff (h : EndxSet v s) (d : Byte) : EndxSet v (writeKoff d s) :=
  State.forMask_keeps_voice (P := fun x => x.endx = true)
    (s := { s with regs := { s.regs with koffCache := d } }) h d fun i _ _ ht => EndxSet.updateVoice ht i fun hx => hx

/-- After its flush an operation that is none of `clearsEndx` reads, writes bytes and marks beside the flag, or keys on other
voices. -/
theorem EndxSet.accessEffect (h : EndxSet v s) {i : Instr} {f : State → State} (hi : accessEffect i = some f)
    (clear : ¬ clearsEndx v i) : EndxSet v (f s) := by
  cases i
  case rdVoll | rdVolr | rdPitchl | rdPitchh | rdSrcn | rdAdsr1 | rdAdsr2 | rdGain | rdEnvx | rdOutx | rdUnusedXA |
      rdUnusedXB | rdUnusedXE | rdFir | rdMvoll | rdMvolr | rdEvoll | rdEvolr | rdKon | rdKoff | rdFlg | rdEndx | rdEfb |
      rdUnused1D | rdPmon | rdNon | rdEon | rdDir | rdEsa | rdEdl | wrEnvx | wrOutx | wrUnusedXA | wrUnusedXB |
      wrUnusedXE | wrUnused1D | wrFir | wrMvoll | wrMvolr | wrEvoll | wrEvolr | wrFlg | wrEfb | wrPmon | wrNon | wrEon |
      wrDir | wrEsa | wrEdl =>
    cases hi; exact h
  case wrVoll | wrVolr | wrPitchl | wrPitchh | wrSrcn | wrAdsr1 | wrAdsr2 | wrGain | vctl =>
    cases hi; refine EndxSet.answer (h.updateVoice _ ?_) _; exact fun hx => hx
  case wrKon => cases hi; exact (h.writeKon clear).answer _
  case wrKoff => cases hi; exact (h.writeKoff _).answer _
  case wrEndx => exact absurd trivial clear
  case rdHigh | wrHigh | cyc | flush | load | pull | reset | reserved => cases hi

/-- Settles O32: every tick keeps a flag that is set, and so does every effect but those of the four ways to clear it. -/
theorem endxIsStickyUntilCleared : Obligations.EndxIsStickyUntilCleared := by
  intro i s t v he h clear
  refine exec_keeps_voice (P := fun x => x.endx = true) (fun _ => EndxSet.tick)
    (fun f hi _ hu => EndxSet.accessEffect hu hi clear) (fun data load => ?_) (fun reset => ?_) he h
  · exact absurd (load ▸ trivial) clear
  · exact absurd (reset ▸ trivial) clear

end Sys2Proof.Machine
end

section
/-! PROOFS. What a tick makes of two states that agree in some of their voices (42_voice.md R199, R205): the obligations
`LaterVoicesDoNotReachEarlierOnes` and `MuteAndSoloChangeOnlyTheMixes`. -/

namespace Sys2Proof.Machine

/-! ## A voice without its host controls -/

theorem Voice.eq_of_unmarked_eq {u v : Voice} (h : u.unmarked = v.unmarked) (mute : u.mute = v.mute)
    (solo : u.solo = v.solo) : u = v :=
  calc u
    _ = { u.unmarked with mute := u.mute, solo := u.solo } := rfl
    _ = { v.unmarked with mute := v.mute, solo := v.solo } := by rw [h, mute, solo]
    _ = v := rfl

theorem nextBlock_unmarked (m : Memory) (dir : Byte) (v : Voice) :
    nextBlock m dir v.unmarked = (nextBlock m dir v).unmarked := by
  cases ends : v.decEnd with
  | true => rw [nextBlock_of_end ends, nextBlock_of_end (v := v.unmarked) ends]; rfl
  | false => rw [nextBlock_of_not_end ends, nextBlock_of_not_end (v := v.unmarked) ends]; rfl

theorem advanceOne_unmarked (m : Memory) (dir : Byte) (v : Voice) :
    advanceOne m dir v.unmarked = (advanceOne m dir v).unmarked := by
  by_cases last : v.decIndex + 1 = 16
  · rw [advanceOne_of_index_eq last, advanceOne_of_index_eq (v := v.unmarked) last]
    exact nextBlock_unmarked m dir (popSample v)
  · rw [advanceOne_of_index_ne last, advanceOne_of_index_ne (v := v.unmarked) last]; rfl

theorem advanceMany_unmarked (m : Memory) (dir : Byte) (n : Nat) (v : Voice) :
    advanceMany m dir n v.unmarked = (advanceMany m dir n v).unmarked := by
  induction n generalizing v with
  | zero => rfl
  | succ n ih => rw [advanceMany, advanceMany, advanceOne_unmarked, ih]

theorem advance_unmarked (m : Memory) (dir : Byte) (p : Nat) (v : Voice) :
    advance m dir p v.unmarked = (advance m dir p v).unmarked :=
  advanceMany_unmarked m dir _ { v with phase := v.phase + p }

theorem envTick_unmarked (counter : Nat) (v : Voice) : envTick counter v.unmarked = (envTick counter v).unmarked := by
  by_cases released : v.envMode = .release
  · rw [envTick_of_release released, envTick_of_release (v := v.unmarked) released]; rfl
  · rw [envTick_of_ne_release released, envTick_of_ne_release (v := v.unmarked) released]; rfl

/-! ## States that agree in their first voices -/

/-- `t` is `s` but for the voices from `n` on and the host controls of those below. -/
structure AgreeBelow (n : Nat) (s t : State) : Prop where
  voices : ∀ v : VoiceId, v.val < n → t.voices[v].unmarked = s.voices[v].unmarked
  rest : t = { s with voices := t.voices }

section Agree

variable {n : Nat} {s t : State}

theorem AgreeBelow.regs (h : AgreeBelow n s t) : t.regs = s.regs := (congrArg State.regs h.rest :)
theorem AgreeBelow.noise (h : AgreeBelow n s t) : t.noise = s.noise := (congrArg State.noise h.rest :)
theorem AgreeBelow.counter (h : AgreeBelow n s t) : t.counter = s.counter := (congrArg State.counter h.rest :)
theorem AgreeBelow.mem (h : AgreeBelow n s t) : t.mem = s.mem := (congrArg State.mem h.rest :)
theorem AgreeBelow.params (h : AgreeBelow n s t) : t.params = s.params := (congrArg State.params h.rest :)
theorem AgreeBelow.ring (h : AgreeBelow n s t) : t.ring = s.ring := (congrArg State.ring h.rest :)

/-- A function of the state that neither reads nor writes the voices keeps the agreement. -/
theorem AgreeBelow.map (h : AgreeBelow n s t) {f : State → State}
    (hf : ∀ (s : State) (w : Vector Voice 8), f { s with voices := w } = { f s with voices := w }) :
    AgreeBelow n (f s) (f t) := by
  have keeps (r : State) : (f r).voices = r.voices := (congrArg State.voices (hf r r.voices) :)
  refine ⟨fun v hv => ?_, ?_⟩
  · rw [keeps, keeps]; exact h.voices v hv
  · rw [keeps, ← hf, ← h.rest]

theorem AgreeBelow.setVoice (h : AgreeBelow n s t) (i : VoiceId) {x y : Voice}
    (hx : i.val < n → y.unmarked = x.unmarked) : AgreeBelow n (s.setVoice i x) (t.setVoice i y) := by
  refine ⟨fun v hv => ?_, ?_⟩
  · rw [State.setVoice_getElem, State.setVoice_getElem]
    split
    · rename_i same; exact hx (same ▸ hv)
    · exact h.voices v hv
  · rw [State.setVoice_voices]
    exact congrArg (State.setVoice · i y) h.rest

theorem AgreeBelow.updateVoice (h : AgreeBelow n s t) (i : VoiceId) {f : Voice → Voice}
    (hf : ∀ x : Voice, f x.unmarked = (f x).unmarked) : AgreeBelow n (s.updateVoice i f) (t.updateVoice i f) :=
  h.setVoice i fun hi => by rw [← hf, h.voices i hi, hf]

/-! ## Steps 0 to 4 -/

theorem AgreeBelow.flgSiliconEffects (h : AgreeBelow n s t) : AgreeBelow n (flgSiliconEffects s) (flgSiliconEffects t) := by
  have switch : (t.params.flgSiliconEffects && flgSoftReset t) = (s.params.flgSiliconEffects && flgSoftReset s) := by
    rw [flgSoftReset, flgSoftReset, h.params, h.regs]
  rw [Machine.flgSiliconEffects, Machine.flgSiliconEffects, switch]
  split
  · exact List.foldl_rel h fun i _ _ _ agree => agree.updateVoice i fun _ => rfl
  · exact h

theorem noiseStep_setVoices (s : State) (w : Vector Voice 8) :
    noiseStep { s with voices := w } = { noiseStep s with voices := w } := by
  have fires : counterFires s.counter (noiseRate { s with voices := w }) = counterFires s.counter (noiseRate s) := rfl
  rw [noiseStep, noiseStep, fires]
  split <;> rfl

theorem AgreeBelow.rawSample (h : AgreeBelow n s t) {i : VoiceId} (hi : i.val < n) : rawSample t i = rawSample s i := by
  have kernel : interpolate s.params t.voices[i] = interpolate s.params s.voices[i] :=
    (congrArg (interpolate s.params) (h.voices i hi) :)
  rw [Machine.rawSample, Machine.rawSample, h.regs, h.noise, h.params, kernel]

/-- A render reads of the voices its own alone, and of its host controls nothing but for the contributions. -/
theorem AgreeBelow.renderVoice (h : AgreeBelow n s t) {i : VoiceId} (hi : i.val < n) (hIn : Sample) (a b : Bool) :
    (renderVoice t i hIn b).voice.unmarked = (renderVoice s i hIn a).voice.unmarked ∧
      (renderVoice t i hIn b).hOut = (renderVoice s i hIn a).hOut := by
  have same := h.voices i hi
  have raw := h.rawSample hi
  have level : t.voices[i].envLevel = s.voices[i].envLevel := (congrArg Voice.envLevel same :)
  have pitch : effectivePitch s.regs.pmon i t.voices[i] hIn = effectivePitch s.regs.pmon i s.voices[i] hIn :=
    (congrArg (effectivePitch s.regs.pmon i · hIn) same :)
  have stepped (p : Nat) : (envTick s.counter (advance s.mem s.regs.dir p t.voices[i])).unmarked =
      (envTick s.counter (advance s.mem s.regs.dir p s.voices[i])).unmarked := by
    rw [← envTick_unmarked, ← advance_unmarked, same, advance_unmarked, envTick_unmarked]
  constructor
  · rw [renderVoice_voice, renderVoice_voice, raw, level, h.regs, h.counter, h.mem, pitch]
    exact congrArg (fun x : Voice => { x with outEnv := envelopeScale (Machine.rawSample s i) s.voices[i].envLevel,
                                              lastRaw := Machine.rawSample s i }) (stepped _)
  · rw [renderVoice_hOut, renderVoice_hOut, raw, level, h.params]

end Agree

theorem voiceIds_take_lt : ∀ n < 9, ∀ v ∈ voiceIds.take n, v.val < n := by decide

theorem voiceIds_drop_ge : ∀ n < 9, ∀ v ∈ voiceIds.drop n, ¬ v.val < n := by decide

/-- The loop renders the voices below `n` first, each with an equal hand-off, and after them it writes only later ones. -/
theorem AgreeBelow.renderVoices {n : Nat} {s t : State} (h : AgreeBelow n s t) (hn : n < 9) :
    AgreeBelow n (renderVoices s).1 (renderVoices t).1 := by
  have first := List.foldl_rel (l := voiceIds.take n) (f := renderStep (anySolo s)) (g := renderStep (anySolo t))
    (r := fun x y => AgreeBelow n x.1 y.1 ∧ y.2.h = x.2.h) (a := (s, Mix.start)) (b := (t, Mix.start)) ⟨h, rfl⟩
    fun i hi x y ⟨agree, handOff⟩ => by
      obtain ⟨voice, hOut⟩ := agree.renderVoice (voiceIds_take_lt n hn i hi) x.2.h (anySolo s) (anySolo t)
      simp only [renderStep, handOff]
      exact ⟨agree.setVoice i fun _ => voice, hOut⟩
  have later := List.foldl_rel (l := voiceIds.drop n) (f := renderStep (anySolo s)) (g := renderStep (anySolo t))
    (r := fun x y => AgreeBelow n x.1 y.1) first.1
    fun i hi x y agree => agree.setVoice i fun below => absurd below (voiceIds_drop_ge n hn i hi)
  rw [← List.foldl_append, ← List.foldl_append, List.take_append_drop] at later
  exact later

theorem AgreeBelow.tickRender {n : Nat} {s t : State} (h : AgreeBelow n s t) (hn : n < 9) :
    AgreeBelow n (tickRender s).1 (tickRender t).1 :=
  (h.flgSiliconEffects.map noiseStep_setVoices).renderVoices hn

/-- Settles O23: the states agree below voice `j` and stay so, and a tick keeps the controls of either. -/
theorem laterVoicesDoNotReachEarlierOnes : Obligations.LaterVoicesDoNotReachEarlierOnes := by
  intro s i j x hij
  have before : (s.setVoice j x).voices[i] = s.voices[i] := s.setVoice_get_ne x hij.ne
  have start : AgreeBelow j.val s (s.setVoice j x) :=
    ⟨fun v hv => by rw [s.setVoice_get_ne x (Fin.ne_of_lt hv)], rfl⟩
  have kept := (tick_kept s).voices i
  have kept' := (tick_kept (s.setVoice j x)).voices i
  have agree := (start.tickRender (n := j.val) (by omega)).voices i hij
  rw [← tick_voices, ← tick_voices] at agree
  exact Voice.eq_of_unmarked_eq agree (by rw [kept.mute, kept'.mute, before]) (by rw [kept.solo, kept'.solo, before])

/-! ## The end of a tick -/

/-- `t` is `s` but for the host controls of the voices, the ring and memory. -/
structure AgreeButOutput (s t : State) : Prop where
  voices : ∀ v : VoiceId, t.voices[v].unmarked = s.voices[v].unmarked
  rest : t = { s with voices := t.voices, ring := t.ring, mem := t.mem }

section Finish

variable {s t : State}

theorem AgreeBelow.butOutput (h : AgreeBelow 8 s t) : AgreeButOutput s t := by
  refine ⟨fun v => h.voices v v.isLt, ?_⟩
  rw [h.ring, h.mem]
  exact h.rest

theorem AgreeButOutput.ringPush (h : AgreeButOutput s t) (f g : Frame) : AgreeButOutput (ringPush f s) (ringPush g t) :=
  ⟨h.voices, congrArg (Machine.ringPush g) h.rest⟩

theorem echoWrite_eq (m : Mix) (e : EchoOut) (s : State) : echoWrite m e s = { s with mem := (echoWrite m e s).mem } := by
  unfold echoWrite
  split <;> rfl

theorem AgreeButOutput.echoWrite (h : AgreeButOutput s t) (m m' : Mix) (e e' : EchoOut) :
    AgreeButOutput (echoWrite m e s) (echoWrite m' e' t) := by
  rw [echoWrite_eq m e s, echoWrite_eq m' e' t]
  exact ⟨h.voices, congrArg (fun r : State => { r with mem := (Machine.echoWrite m' e' t).mem }) h.rest⟩

theorem AgreeButOutput.echoCursor (h : AgreeButOutput s t) : AgreeButOutput (echoCursor s) (echoCursor t) :=
  ⟨h.voices, congrArg Machine.echoCursor h.rest⟩

theorem AgreeButOutput.counterStep (h : AgreeButOutput s t) : AgreeButOutput (counterStep s) (counterStep t) :=
  ⟨h.voices, congrArg Machine.counterStep h.rest⟩

/-- The tuples of the receiver hold nothing of the host controls (44_dsp_tick.md R242). -/
theorem AgreeButOutput.emitVisualization (h : AgreeButOutput s t) :
    AgreeButOutput (emitVisualization s) (emitVisualization t) := by
  have tuples : (fun v : VoiceId => emission t.voices[v]) = fun v : VoiceId => emission s.voices[v] :=
    funext fun v => (congrArg emission (h.voices v) :)
  have receiver : t.receiver = s.receiver := (congrArg State.receiver h.rest :)
  refine ⟨h.voices, ?_⟩
  rw [Machine.emitVisualization, Machine.emitVisualization, tuples, receiver]
  exact congrArg (fun r : State =>
    { r with receiver := s.receiver.map (· ++ [voiceIds.map fun v => emission s.voices[v]]) }) h.rest

theorem AgreeButOutput.tickFinish (h : AgreeButOutput s t) (m m' : Mix) (e e' : EchoOut) :
    AgreeButOutput (tickFinish m e s) (tickFinish m' e' t) :=
  (h.echoWrite m m' e e').echoCursor.counterStep.emitVisualization

theorem AgreeBelow.beforePush (h : AgreeBelow 8 s t) : AgreeBelow 8 (beforePush s) (beforePush t) :=
  (h.tickRender (by decide)).map fun _ _ => rfl

theorem AgreeBelow.tick (h : AgreeBelow 8 s t) : AgreeButOutput (tick s) (tick t) := by
  have agree := h.beforePush
  rcases tick_cases s with ⟨full, hs⟩ | ⟨room, hs⟩ <;> rcases tick_cases t with ⟨full', ht⟩ | ⟨room', ht⟩
  · rw [hs, ht]
    exact (agree.map (f := State.raiseFault .ringOverflow) fun _ _ => rfl).butOutput
  · rw [h.ring, h.params] at room'; omega
  · rw [h.ring, h.params] at full'; omega
  · rw [hs, ht]
    exact (agree.butOutput.ringPush _ _).tickFinish _ _ _ _

end Finish

/-- 44_dsp_tick.md R238: a tick leaves every byte outside its echo frame alone, whatever form the memory is in. -/
theorem tick_read_of_notMem {s : State} {a : Addr} (ha : a ∉ frameBytes (echoFrameAddr s)) :
    Memory.read (tick s).mem a = Memory.read s.mem a := by
  simp only [frameBytes, List.mem_cons, List.not_mem_nil, or_false, not_or] at ha
  obtain ⟨h0, h1, h2, h3⟩ := ha
  have h3' : a ≠ echoFrameAddr s + 2 + 1 := by rw [BitVec.add_assoc]; exact h3
  rcases tick_mem s with e | ⟨-, -, l, r, e⟩
  · rw [e]
  · rw [e, Memory.write16, Memory.write16, Memory.read_write_ne _ _ h3', Memory.read_write_ne _ _ h2,
      Memory.read_write_ne _ _ h1, Memory.read_write_ne _ _ h0]

/-- A tick leaves the frames already in the ring where they are. -/
theorem tick_ring_take (s : State) : (tick s).ring.take s.ring.length = s.ring := by
  rw [tick_ring]
  split
  · exact List.take_left
  · exact List.take_length

theorem tick_ring_length (s : State) :
    (tick s).ring.length = if s.ring.length < s.params.ringCapacity then s.ring.length + 1 else s.ring.length := by
  rw [tick_ring]
  split
  · rw [List.length_append, List.length_singleton]
  · rfl

/-- Settles O24: the states agree in all eight voices but for the controls (`AgreeBelow.tick`); ring and memory are each
tick's own frame beside what both began with. -/
theorem muteAndSoloChangeOnlyTheMixes : Obligations.MuteAndSoloChangeOnlyTheMixes := by
  intro s w hw t u
  have start : AgreeBelow 8 s { s with voices := w } := ⟨fun v _ => hw v, rfl⟩
  have agree : AgreeButOutput t u := start.tick
  have kept := (tick_kept { s with voices := w }).voices
  refine ⟨agree.rest, fun v => ⟨agree.voices v, (kept v).mute, (kept v).solo⟩, ?_, ?_, tick_ring_take s, ?_, ?_⟩
  · rw [tick_ring_length, tick_ring_length]
  · exact tick_ring_take { s with voices := w }
  · intro off
    rw [tick_mem_of_echo_disabled (s := s) off, tick_mem_of_echo_disabled (s := { s with voices := w }) off]
  · intro a ha
    rw [tick_read_of_notMem (s := s) ha, tick_read_of_notMem (s := { s with voices := w }) ha]

end Sys2Proof.Machine
end

section
/-! PROOFS. The echo filter (43_echo_filter.md R211 to R213): the histories a tick leaves and the dot product of a history,
with the obligations `EveryTickReadsItsEchoFrame` and `FirOutputIsEvenAndSaturates`. -/

namespace Sys2Proof.Machine

/-! ## The histories (R211) -/

theorem firShift_newest (hist : Vector Sample 8) (x : Sample) : (firShift hist x)[7] = x >>> 1 := rfl

/-- Every entry but the newest is the one that stood a place nearer to it. -/
theorem firShift_older (hist : Vector Sample 8) (x : Sample) (k : Fin 7) :
    (firShift hist x)[k.val] = hist[k.val + 1] := by
  match k with
  | 0 | 1 | 2 | 3 | 4 | 5 | 6 => rfl

theorem beforePush_histL (s : State) :
    (beforePush s).histL = firShift s.histL (Memory.read16 s.mem (echoFrameAddr s)).toInt := by
  have f := tickRender_frame s
  rw [beforePush, echoRead, f.histL, f.mem, echoFrameAddr_of_frame f]

theorem beforePush_histR (s : State) :
    (beforePush s).histR = firShift s.histR (Memory.read16 s.mem (echoFrameAddr s + 2)).toInt := by
  have f := tickRender_frame s
  rw [beforePush, echoRead, f.histR, f.mem, echoFrameAddr_of_frame f]

/-- 44_dsp_tick.md R235: the echo read comes before the push that can fault, and nothing after it writes the histories. -/
theorem tick_hist (s : State) : (tick s).histL = (beforePush s).histL ∧ (tick s).histR = (beforePush s).histR := by
  rcases tick_cases s with ⟨-, faults⟩ | ⟨-, completes⟩
  · rw [faults]
    exact ⟨State.raiseFault_histL _ _, State.raiseFault_histR _ _⟩
  · have finish := tickFinish_frame (tickRender s).2 (firOut (beforePush s)) (afterPush s)
    rw [completes]
    exact ⟨finish.histL.trans (ringPush_histL _ _), finish.histR.trans (ringPush_histR _ _)⟩

theorem tick_histL (s : State) :
    (tick s).histL = firShift s.histL (Memory.read16 s.mem (echoFrameAddr s)).toInt :=
  (tick_hist s).1.trans (beforePush_histL s)

theorem tick_histR (s : State) :
    (tick s).histR = firShift s.histR (Memory.read16 s.mem (echoFrameAddr s + 2)).toInt :=
  (tick_hist s).2.trans (beforePush_histR s)

/-- Settles O13: the histories a tick leaves are the old ones shifted, with the two samples at its echo frame's address
entering (`tick_histL`, `tick_histR`). -/
theorem everyTickReadsItsEchoFrame : Obligations.EveryTickReadsItsEchoFrame := by
  intro s f
  have left : (tick s).histL = firShift s.histL (Memory.read16 s.mem f).toInt := tick_histL s
  have right : (tick s).histR = firShift s.histR (Memory.read16 s.mem (f + 2)).toInt := tick_histR s
  have next : f + 2 + 1 = f + 3 := BitVec.add_assoc f 2 1
  simp only [left, right, firShift_newest]
  refine ⟨rfl, ?_, fun k => ⟨firShift_older _ _ k, firShift_older _ _ k⟩⟩
  rw [Memory.read16, pair, next]

/-! ## The dot product (R213) -/

/-- The first wrap is around the sum of the first seven products, in the order of the taps. -/
theorem firDot_eq (fir : Vector Byte 8) (hist : Vector Sample 8) :
    firDot fir hist = clearBit0 (clamp16
      (wrap16 ((List.finRange 7).map fun k => firTerm fir hist k.castSucc).sum + wrap16 (firTerm fir hist 7))) := by
  rw [← Fin.sum_univ_def, Fin.sum_univ_seven]
  rfl

/-- Settles O14: the filter clears bit 0 of a saturated sum (`firDot_eq`), and what that leaves is even and in range. -/
theorem firOutputIsEvenAndSaturates : Obligations.FirOutputIsEvenAndSaturates := by
  intro fir hist term sum
  have value : firDot fir hist = clearBit0 (clamp16 sum) := firDot_eq fir hist
  rw [value]
  exact ⟨rfl, clearBit0_even _, clearBit0_inSample (clamp16_inSample _)⟩

end Sys2Proof.Machine
end

section
/-! PROOFS. The numbers of a tick (00_scope.md R11; 44_dsp_tick.md R226 to R228, R230, R231): the saturating sums and the rate
table, with the obligations `MixSumsSaturate` and `RatesFireAtTheirPeriods`. -/

namespace Sys2Proof.Machine

/-! ## The mix sums (R230, R231) -/

/-- The four sums are signed 16-bit values. -/
structure Mix.InRange (m : Mix) : Prop where
  ml : InSample m.ml
  mr : InSample m.mr
  el : InSample m.el
  er : InSample m.er

theorem Mix.start_inRange : Mix.start.InRange := ⟨inSample_zero, inSample_zero, inSample_zero, inSample_zero⟩

theorem Mix.InRange.add {m : Mix} (h : m.InRange) (echo : Bool) (l r : Int) (hOut : Sample) :
    (m.add echo l r hOut).InRange := by
  cases echo with
  | false => exact ⟨clamp16_inSample _, clamp16_inSample _, h.el, h.er⟩
  | true => exact ⟨clamp16_inSample _, clamp16_inSample _, clamp16_inSample _, clamp16_inSample _⟩

theorem renderVoices_mix_inRange (s : State) : (renderVoices s).2.InRange :=
  foldl_keeps (fun x : State × Mix => x.2.InRange) (renderStep (anySolo s)) (fun _ _ h => h.add _ _ _ _) voiceIds
    (s, Mix.start) Mix.start_inRange

theorem clamp16_of_inSample {v : Int} (h : InSample v) : clamp16 v = v := by
  simp only [InSample, clamp16, Sample] at h ⊢; omega

theorem clamp16_of_gt {v : Int} (h : 32767 < v) : clamp16 v = 32767 := by
  simp only [clamp16, Sample]; omega

theorem clamp16_of_lt {v : Int} (h : v < -32768) : clamp16 v = -32768 := by
  simp only [clamp16, Sample]; omega

theorem wrap16_congruent (v : Int) : (wrap16 v - v) % 0x10000 = 0 := by
  simp only [wrap16, sext, zext, Sample]; omega

/-- Settles O12: every addition saturates (`Mix.InRange.add`), and the eight turns of the extreme are computed. -/
theorem mixSumsSaturate : Obligations.MixSumsSaturate := by
  refine ⟨fun s => ?_, by decide, fun v => ?_⟩
  · obtain ⟨ml, mr, el, er⟩ := renderVoices_mix_inRange (noiseStep (flgSiliconEffects s))
    exact ⟨ml, mr, el, er⟩
  · exact ⟨clamp16_of_inSample, clamp16_of_gt, clamp16_of_lt, wrap16_inSample v, wrap16_congruent v⟩

/-! ## The rates (R226, R227) -/

theorem rateTable_getD_default : ∀ r < 32, rateTable.getD r 1 = rateTable.getD r 0 := by decide

theorem rateTable_dvd : ∀ r < 32, 1 ≤ r → rateTable.getD r 0 ∣ 30720 := by decide

theorem counterFires_iff {r : Nat} (hr : r < 32) (c : Nat) :
    counterFires c r = true ↔ (c + offsetTable.getD r 0) % rateTable.getD r 0 = 0 := by
  rw [counterFires, rateTable_getD_default r hr, decide_eq_true_iff]

/-- A counter that has come down by `t` modulo 30720 is the negative of `t` modulo every period. -/
theorem counterFires_after {r : Nat} (hr : r < 32) (h1 : 1 ≤ r) (t : Nat) :
    counterFires ((30720 - t % 30720) % 30720) r = true ↔
      t % rateTable.getD r 0 = offsetTable.getD r 0 % rateTable.getD r 0 := by
  have down : (30720 - t % 30720) % 30720 + t ≡ 0 [MOD 30720] := by unfold Nat.ModEq; omega
  have down' := down.of_dvd (rateTable_dvd r hr h1)
  rw [counterFires_iff hr]
  generalize (30720 - t % 30720) % 30720 = c at down'
  constructor
  · intro fires
    exact (Nat.ModEq.add_left_cancel' c (down'.trans (Nat.ModEq.symm fires)) :)
  · intro same
    exact ((Nat.ModEq.add_left c (Nat.ModEq.symm same)).trans down' :)

theorem counterFires_zero {c : Nat} (h : c < 30720) : counterFires c 0 = false := by
  have below : (c + 1) % 30721 = c + 1 := Nat.mod_eq_of_lt (by omega)
  simp [counterFires, offsetTable, rateTable, below]

theorem counterFires_always (c : Nat) : counterFires c 31 = true := by
  simp [counterFires, rateTable, Nat.mod_one]

/-- Settles O19: the ticks of a rate are those of `counterFires_after`; the periods are read off the table. -/
theorem ratesFireAtTheirPeriods : Obligations.RatesFireAtTheirPeriods :=
  ⟨rfl, rfl, fun c _ hr => counterFires_iff hr c, fun r t h1 hr => ⟨rateTable_dvd r hr h1, counterFires_after hr h1 t⟩,
    fun c hc => ⟨counterFires_zero hc, counterFires_always c⟩⟩

end Sys2Proof.Machine
end

section
/-! PROOFS. What a completed tick leaves (44_dsp_tick.md R236 to R240): its frame, its echo write, its cursor and its counters,
with the obligations `TickWithRoomAppendsOneFrame`, `OutputFrameScalesMixAndEcho`, `EchoWriteStoresSendPlusFeedback`,
`EchoCursorLatchesLengthAtZero` and `RateCounterCountsDown`. -/

namespace Sys2Proof.Machine

/-- Settles O9: what a tick writes is in its frame lemmas (`tick_kept`, `tick_frame`), and its frame is `tick_ring`'s. -/
theorem tickWithRoomAppendsOneFrame : Obligations.TickWithRoomAppendsOneFrame := by
  intro s hf room
  obtain ⟨left, right⟩ := outputFrame_inSample (beforePush s) (tickRender s).2 (firOut (beforePush s))
  refine ⟨?_, tick_kept s, (tick_frame s).accCycles, (tick_frame s).flushing, _, left, right, ?_⟩
  · rw [tick_fault s hf, if_neg room.not_ge]
  · rw [tick_ring, if_pos room]

/-! ## Steps 6 to 9 -/

theorem tickFinish_eq (m : Mix) (e : EchoOut) (s : State) :
    tickFinish m e s = { s with
      mem := (echoWrite m e s).mem
      echoLen := (echoCursor s).echoLen
      echoPos := (echoCursor s).echoPos
      counter := (counterStep s).counter
      ticksTotal := s.ticksTotal + 1
      receiver := s.receiver.map (· ++ [voiceIds.map fun v => emission s.voices[v]]) } := by
  rw [tickFinish, echoWrite_eq]; rfl

/-- What a tick writes only in steps 6 to 9, after the push. -/
structure UnfinishedFrame (s t : State) : Prop where
  mem : t.mem = s.mem
  echoPos : t.echoPos = s.echoPos
  echoLen : t.echoLen = s.echoLen
  counter : t.counter = s.counter
  ticksTotal : t.ticksTotal = s.ticksTotal
  receiver : t.receiver = s.receiver

theorem UnfinishedFrame.trans {s t u : State} (a : UnfinishedFrame s t) (b : UnfinishedFrame t u) : UnfinishedFrame s u :=
  ⟨b.mem.trans a.mem, b.echoPos.trans a.echoPos, b.echoLen.trans a.echoLen, b.counter.trans a.counter,
   b.ticksTotal.trans a.ticksTotal, b.receiver.trans a.receiver⟩

theorem RenderFrame.unfinished {s t : State} (h : RenderFrame s t) : UnfinishedFrame s t :=
  ⟨h.mem, h.echoPos, h.echoLen, h.counter, h.ticksTotal, h.receiver⟩

theorem echoRead_unfinished (s : State) : UnfinishedFrame s (echoRead s) := ⟨rfl, rfl, rfl, rfl, rfl, rfl⟩

theorem ringPush_unfinished (f : Frame) (s : State) : UnfinishedFrame s (ringPush f s) := ⟨rfl, rfl, rfl, rfl, rfl, rfl⟩

theorem beforePush_unfinished (s : State) : UnfinishedFrame s (beforePush s) :=
  (tickRender_frame s).unfinished.trans (echoRead_unfinished _)

theorem afterPush_unfinished (s : State) : UnfinishedFrame s (afterPush s) :=
  (beforePush_unfinished s).trans (ringPush_unfinished _ _)

section Room

variable {s : State} (room : s.ring.length < s.params.ringCapacity)
include room

theorem tick_of_room : tick s = tickFinish (tickRender s).2 (firOut (beforePush s)) (afterPush s) := by
  rcases tick_cases s with ⟨full, -⟩ | ⟨-, h⟩
  · omega
  · exact h

theorem tick_echoCursor :
    (tick s).echoLen = (echoCursor s).echoLen ∧ (tick s).echoPos = (echoCursor s).echoPos := by
  have old := afterPush_unfinished s
  rw [tick_of_room room, tickFinish_eq]
  simp only [echoCursor, (afterPush_frame s).regs, old.echoPos, old.echoLen, and_self]

theorem tick_counterStep :
    (tick s).counter = (counterStep s).counter ∧ (tick s).ticksTotal = s.ticksTotal + 1 := by
  have old := afterPush_unfinished s
  rw [tick_of_room room, tickFinish_eq]
  simp only [counterStep, old.counter, old.ticksTotal, and_self]

end Room

theorem echoLength_eq (edl : Byte) : echoLength edl = edl.toNat % 16 * 0x800 := by
  rw [echoLength, bits_eq_div_mod, pow_zero, Nat.div_one]; rfl

/-- Settles O17: a completed tick's cursor and length are `echoCursor`'s, from the fields it started with. -/
theorem echoCursorLatchesLengthAtZero : Obligations.EchoCursorLatchesLengthAtZero := by
  intro s room
  obtain ⟨len, pos⟩ := tick_echoCursor room
  rw [pos, len, ← echoLength_eq]
  exact ⟨rfl, rfl⟩

/-- Settles O18: a completed tick's counters are `counterStep`'s, whose wrap is the remainder's. -/
theorem rateCounterCountsDown : Obligations.RateCounterCountsDown := by
  intro s room
  obtain ⟨counter, total⟩ := tick_counterStep room
  refine ⟨?_, total⟩
  rw [counter, counterStep]
  dsimp only
  split <;> omega

/-! ## The frame and the echo write -/

/-- The filter outputs are the dot products of the histories the tick leaves: nothing writes them after the echo read. -/
theorem firOut_beforePush (s : State) :
    firOut (beforePush s) = ⟨firDot s.regs.fir (tick s).histL, firDot s.regs.fir (tick s).histR⟩ := by
  rw [firOut, (beforePush_frame s).regs, (tick_hist s).1, (tick_hist s).2]

/-- R241: the mute of FLG bit 6 acts only with `FLG_SILICON_EFFECTS`. -/
theorem outputFrame_eq (s : State) (m : Mix) (e : EchoOut) :
    outputFrame s m e =
      if s.params.flgSiliconEffects = true ∧ s.regs.flg.getLsbD 6 = true then ⟨0, 0⟩
      else ⟨outputSample m.ml s.regs.mvolL e.fl s.regs.evolL, outputSample m.mr s.regs.mvolR e.fr s.regs.evolR⟩ := by
  simp only [outputFrame, flgMute, Bool.and_eq_true]

theorem outputFrame_beforePush (s : State) (m : Mix) (e : EchoOut) :
    outputFrame (beforePush s) m e = outputFrame s m e := by
  rw [outputFrame_eq, outputFrame_eq, (beforePush_frame s).regs, (beforePush_frame s).params]

/-- Settles O15: the frame of `tick_ring` at the tick's own registers, with the outputs of `firOut_beforePush`. -/
theorem outputFrameScalesMixAndEcho : Obligations.OutputFrameScalesMixAndEcho := by
  intro s room m fl fr left right
  rw [tick_ring, if_pos room, outputFrame_beforePush, outputFrame_eq, firOut_beforePush]
  rfl

theorem Memory.read_write16 {m : Memory} (h : Memory.wf m = true) (a : Addr) (v : Sample) :
    Memory.read (Memory.write16 m a v) a = lowByte v ∧ Memory.read (Memory.write16 m a v) (a + 1) = highByte v := by
  have apart : a ≠ a + 1 := by bv_omega
  rw [Memory.write16, Memory.read_write_ne _ _ apart, Memory.read_write h, if_pos rfl,
    Memory.read_write (Memory.wf_write h _ _), if_pos rfl]
  exact ⟨rfl, rfl⟩

/-- The bytes of a frame: two samples, the second at the two addresses after the first's. -/
theorem Memory.read_writeFrame {m : Memory} (h : Memory.wf m = true) (a : Addr) (l r : Sample) :
    Memory.read (Memory.write16 (Memory.write16 m a l) (a + 2) r) a = lowByte l ∧
    Memory.read (Memory.write16 (Memory.write16 m a l) (a + 2) r) (a + 1) = highByte l ∧
    Memory.read (Memory.write16 (Memory.write16 m a l) (a + 2) r) (a + 2) = lowByte r ∧
    Memory.read (Memory.write16 (Memory.write16 m a l) (a + 2) r) (a + 3) = highByte r := by
  have next : a + 3 = a + 2 + 1 := (BitVec.add_assoc a 2 1).symm
  have wf := Memory.wf_write16 h a l
  obtain ⟨low, high⟩ := Memory.read_write16 h a l
  obtain ⟨low', high'⟩ := Memory.read_write16 wf (a + 2) r
  refine ⟨?_, ?_, low', next ▸ high'⟩
  · rw [Memory.read_write16_ne wf _ _ _ (by bv_omega) (by bv_omega), low]
  · rw [Memory.read_write16_ne wf _ _ _ (by bv_omega) (by bv_omega), high]

theorem tick_mem_of_echo_enabled {s : State} (room : s.ring.length < s.params.ringCapacity)
    (enabled : s.regs.flg.getLsbD 5 = false) :
    (tick s).mem = Memory.write16
      (Memory.write16 s.mem (echoFrameAddr s) (echoSample (tickRender s).2.el (firDot s.regs.fir (tick s).histL) s.regs.efb))
      (echoFrameAddr s + 2) (echoSample (tickRender s).2.er (firDot s.regs.fir (tick s).histR) s.regs.efb) := by
  have regs := (afterPush_frame s).regs
  have old := afterPush_unfinished s
  have addr : echoFrameAddr (afterPush s) = echoFrameAddr s := by rw [echoFrameAddr, echoFrameAddr, regs, old.echoPos]
  have write : echoWriteEnabled (afterPush s) = true := by rw [echoWriteEnabled, regs, enabled]; rfl
  have completes : (tick s).mem = (echoWrite (tickRender s).2 (firOut (beforePush s)) (afterPush s)).mem := by
    rw [tick_of_room room, tickFinish_mem]
  rw [completes, echoWrite, if_pos write, firOut_beforePush, addr, old.mem, regs]

/-- Settles O16: the two writes of `tick_mem_of_echo_enabled` read back, and the bytes no tick reaches. -/
theorem echoWriteStoresSendPlusFeedback : Obligations.EchoWriteStoresSendPlusFeedback := by
  intro s room wf m fl fr sum left right f
  refine ⟨fun enabled => ?_, tick_mem_of_echo_disabled⟩
  obtain ⟨b0, b1, b2, b3⟩ := Memory.read_writeFrame wf f left right
  have mem : (tick s).mem = Memory.write16 (Memory.write16 s.mem f left) (f + 2) right := tick_mem_of_echo_enabled room enabled
  rw [mem]
  refine ⟨b0, b1, b2, b3, fun a ha => ?_⟩
  rw [← mem]
  exact tick_read_of_notMem ha

end Sys2Proof.Machine
end

section
/-! PROOFS. Steps 0 to 4 of a tick (44_dsp_tick.md R228, R229, R230, R233, R241): the state the voices render from, the render
loop with its hand-offs, and the obligations `VoicesRenderInOrderWithHandOff` and `NoiseStepShiftsAndFeedsBack`. -/

namespace Sys2Proof.Machine

/-! ## Steps 0 and 1 -/

theorem mem_voiceIds : ∀ v : VoiceId, v ∈ voiceIds := by decide

theorem foldl_updateVoice (f : Voice → Voice) {l : List VoiceId} (once : l.Nodup) (s : State) :
    l.foldl (fun t v => t.updateVoice v f) s =
      { s with voices := Vector.ofFn fun v : VoiceId => if v ∈ l then f s.voices[v] else s.voices[v] } := by
  induction l generalizing s with
  | nil => simp
  | cons i rest ih =>
    obtain ⟨first, later⟩ := List.nodup_cons.mp once
    have turn : ∀ v : VoiceId,
        (if v ∈ rest then f (s.updateVoice i f).voices[v] else (s.updateVoice i f).voices[v]) =
          if v ∈ i :: rest then f s.voices[v] else s.voices[v] := by
      intro v
      rw [State.updateVoice_getElem]
      by_cases same : v = i
      · subst same; simp [first]
      · simp [same]
    rw [List.foldl_cons, ih later]
    simp only [turn]
    rfl

/-- A loop over the voices that does the same to each. -/
theorem State.forVoices_updateVoice (f : Voice → Voice) (s : State) :
    s.forVoices (fun v t => t.updateVoice v f) = { s with voices := Vector.ofFn fun v : VoiceId => f s.voices[v] } := by
  rw [State.forVoices, foldl_updateVoice f (by decide)]
  simp only [mem_voiceIds, if_true]

theorem noiseRate_eq (s : State) : noiseRate s = s.regs.flg.toNat % 32 := by
  rw [noiseRate, bits_eq_div_mod, pow_zero, Nat.div_one]; rfl

/-- The state the voices render from: the noise word stepped at its rate (R228), and with `FLG_SILICON_EFFECTS` and FLG bit 7
every voice in Release at level 0 (R241). -/
def renderStart (s : State) : State :=
  { s with
    noise := if counterFires s.counter (s.regs.flg.toNat % 32) then noiseNext s.noise else s.noise
    voices := Vector.ofFn fun v : VoiceId =>
      if s.params.flgSiliconEffects = true ∧ s.regs.flg.getLsbD 7 = true then
        { s.voices[v] with envMode := .release, envLevel := 0 }
      else s.voices[v] }

theorem flgSiliconEffects_eq (s : State) :
    flgSiliconEffects s = { s with
      voices := Vector.ofFn fun v : VoiceId =>
        if s.params.flgSiliconEffects = true ∧ s.regs.flg.getLsbD 7 = true then softResetVoice s.voices[v]
        else s.voices[v] } := by
  simp only [flgSiliconEffects, flgSoftReset, Bool.and_eq_true]
  split
  · exact s.forVoices_updateVoice softResetVoice
  · have same : (Vector.ofFn fun v : VoiceId => s.voices[v]) = s.voices := by ext; simp
    rw [same]

theorem noiseStep_eq (s : State) :
    noiseStep s = { s with
      noise := if counterFires s.counter (s.regs.flg.toNat % 32) then noiseNext s.noise else s.noise } := by
  rw [noiseStep, noiseRate_eq]
  split <;> rfl

theorem tickRender_eq (s : State) : tickRender s = renderVoices (renderStart s) := by
  rw [tickRender, noiseStep_eq, flgSiliconEffects_eq]; rfl

theorem renderStart_solo (s : State) (v : VoiceId) : (renderStart s).voices[v].solo = s.voices[v].solo := by
  simp only [renderStart, Fin.getElem_fin, Vector.getElem_ofFn]
  split <;> rfl

theorem anySolo_eq_decide (s : State) : anySolo s = decide (∃ v : VoiceId, s.voices[v].solo = true) := by
  rw [Bool.eq_iff_iff, anySolo, List.any_eq_true, decide_eq_true_iff]
  exact ⟨fun ⟨v, _, solo⟩ => ⟨v, solo⟩, fun ⟨v, solo⟩ => ⟨v, mem_voiceIds v, solo⟩⟩

theorem anySolo_renderStart (s : State) : anySolo (renderStart s) = decide (∃ v : VoiceId, s.voices[v].solo = true) := by
  simp only [anySolo_eq_decide, renderStart_solo]

/-! ## The render loop -/

/-- A render reads of the voices its own alone. -/
theorem renderVoice_setVoices (s : State) (w : Vector Voice 8) (i : VoiceId) (same : w[i] = s.voices[i]) (hIn : Sample)
    (anysolo : Bool) : renderVoice { s with voices := w } i hIn anysolo = renderVoice s i hIn anysolo := by
  unfold renderVoice rawSample
  simp only [same]

section Loop

variable (σ : State) (anysolo : Bool)

/-- The hand-off into voice `n`: 0 into voice 0, and the output of the voice before it into every other (R229). -/
def handOff : Nat → Sample
  | 0 => 0
  | n + 1 => (renderVoice σ (Fin.ofNat 8 n) (handOff n) anysolo).hOut

/-- Voice `i` rendered from `σ` with the hand-off into it. -/
def renderedVoice (i : VoiceId) : Rendered := renderVoice σ i (handOff σ anysolo i) anysolo

/-- The four sums and the hand-off over a list of voices. -/
def mixOver (l : List VoiceId) : Mix :=
  l.foldl (fun m i => m.add (maskBit σ.regs.eon i) (renderedVoice σ anysolo i).l (renderedVoice σ anysolo i).r
    (renderedVoice σ anysolo i).hOut) Mix.start

theorem handOff_succ (i : VoiceId) : handOff σ anysolo (i.val + 1) = (renderedVoice σ anysolo i).hOut := by
  rw [handOff, Fin.ofNat_val_eq_self]; rfl

/-- The render loop before voice `n`: the voices below `n` are rendered, nothing else of the state has changed. -/
structure RenderedBelow (n : Nat) (x : State × Mix) : Prop where
  rest : x.1 = { σ with voices := x.1.voices }
  done : ∀ i : VoiceId, i.val < n → x.1.voices[i] = (renderedVoice σ anysolo i).voice
  waiting : ∀ i : VoiceId, n ≤ i.val → x.1.voices[i] = σ.voices[i]
  mix : x.2 = mixOver σ anysolo (voiceIds.take n)
  handOff : x.2.h = handOff σ anysolo n

variable {σ anysolo}

theorem voiceIds_take_succ : ∀ i : VoiceId, voiceIds.take (i.val + 1) = voiceIds.take i.val ++ [i] := by decide

theorem RenderedBelow.renderStep {i : VoiceId} {x : State × Mix} (h : RenderedBelow σ anysolo i.val x) :
    RenderedBelow σ anysolo (i.val + 1) (renderStep anysolo x i) := by
  have out : renderVoice x.1 i x.2.h anysolo = renderedVoice σ anysolo i := by
    rw [h.rest, h.handOff]
    exact renderVoice_setVoices σ x.1.voices i (h.waiting i le_rfl) _ _
  have regs : x.1.regs = σ.regs := by rw [h.rest]
  have turn : Machine.renderStep anysolo x i =
      (x.1.setVoice i (renderedVoice σ anysolo i).voice,
        x.2.add (maskBit σ.regs.eon i) (renderedVoice σ anysolo i).l (renderedVoice σ anysolo i).r
          (renderedVoice σ anysolo i).hOut) := by rw [Machine.renderStep, out, regs]
  rw [turn]
  constructor
  case rest => exact congrArg (State.setVoice · i _) h.rest
  case done =>
    intro j hj
    rw [State.setVoice_getElem]
    split
    · rename_i same; rw [same]
    · rename_i other
      exact h.done j (lt_of_le_of_ne (Nat.le_of_lt_succ hj) (Fin.val_ne_of_ne other))
  case waiting =>
    intro j hj
    rw [State.setVoice_get_ne _ _ (Fin.ne_of_gt hj)]
    exact h.waiting j (Nat.le_of_succ_le hj)
  case mix => rw [voiceIds_take_succ, mixOver, List.foldl_append, ← mixOver, ← h.mix]; rfl
  case handOff => exact (handOff_succ σ anysolo i).symm

theorem renderedBelow_take {n : Nat} (hn : n ≤ 8) :
    RenderedBelow σ anysolo n ((voiceIds.take n).foldl (renderStep anysolo) (σ, Mix.start)) := by
  induction n with
  | zero => exact ⟨rfl, fun _ h => absurd h (Nat.not_lt_zero _), fun _ _ => rfl, rfl, rfl⟩
  | succ n ih =>
    have before := ih (by omega)
    rw [voiceIds_take_succ ⟨n, hn⟩, List.foldl_append]
    exact before.renderStep (i := ⟨n, hn⟩)

end Loop

theorem renderVoices_rendered (σ : State) : RenderedBelow σ (anySolo σ) 8 (renderVoices σ) :=
  renderedBelow_take (n := 8) le_rfl

/-- Settles O11: the hand-offs are `handOff`'s, the voices and the mix those of `RenderedBelow` after all eight turns, and each
sum is the mix's own component of the same loop. -/
theorem voicesRenderInOrderWithHandOff : Obligations.VoicesRenderInOrderWithHandOff := by
  intro s σ anysolo
  have loop : RenderedBelow σ anysolo 8 (tickRender s) := by
    rw [tickRender_eq, show anysolo = anySolo (renderStart s) from (anySolo_renderStart s).symm]
    exact renderVoices_rendered (renderStart s)
  have mix : (tickRender s).2 = mixOver σ anysolo voiceIds := loop.mix
  refine ⟨handOff σ anysolo, rfl, fun i => ⟨handOff_succ σ anysolo i, ?_⟩, ?_⟩
  · rw [tick_voices]; exact loop.done i i.isLt
  · rw [mix]
    exact ⟨(List.foldl_hom Mix.ml fun _ _ => rfl).symm, (List.foldl_hom Mix.mr fun _ _ => rfl).symm,
      (List.foldl_hom Mix.el fun _ _ => rfl).symm, (List.foldl_hom Mix.er fun _ _ => rfl).symm⟩

/-- Settles O20: the bits are those of `noiseNext`'s lemmas, and the renders leave the stepped word alone. -/
theorem noiseStepShiftsAndFeedsBack : Obligations.NoiseStepShiftsAndFeedsBack := by
  refine ⟨fun n => ⟨noiseNext_getLsbD_14 n, fun k hk => noiseNext_getLsbD_lt n hk, noiseNext_ne_zero⟩, fun s => ?_⟩
  rw [tick_noise, tickRender_eq, (renderVoices_rendered (renderStart s)).rest]
  rfl

end Sys2Proof.Machine
end

section
/-! PROOFS. What a tick makes of the fields its renders do not see: the top bits of FLG (44_dsp_tick.md R241), the ring's capacity
(R237) and the receiver (R242), with the obligations `TickAtFullRingFaultsAtItsPush` and `FlgTopBitsActOnlyWithSiliconEffects`. -/

namespace Sys2Proof.Machine

/-! ## The fields steps 0 to 5 do not see -/

/-- `s` with another FLG, another ring capacity and another receiver. -/
def State.withUnseen (s : State) (flg : Byte) (capacity : Nat) (r : Option (List (List VoiceEmission))) : State :=
  { s with regs := { s.regs with flg := flg }, params := { s.params with ringCapacity := capacity }, receiver := r }

theorem State.withUnseen_self (s : State) : s.withUnseen s.regs.flg s.params.ringCapacity s.receiver = s := rfl

/-- `flg` differs from the state's FLG at most in bits 7 and 6, and only with `FLG_SILICON_EFFECTS` off. -/
structure SameFlg (s : State) (flg : Byte) : Prop where
  low : flg.extractLsb' 0 6 = s.regs.flg.extractLsb' 0 6
  top : s.params.flgSiliconEffects = true → flg = s.regs.flg

theorem SameFlg.refl (s : State) : SameFlg s s.regs.flg := ⟨rfl, fun _ => rfl⟩

section Blind

variable (s : State) (flg : Byte) (capacity : Nat) (r : Option (List (List VoiceEmission)))

theorem renderStep_withUnseen (anysolo : Bool) (m : Mix) (i : VoiceId) :
    renderStep anysolo (s.withUnseen flg capacity r, m) i =
      ((renderStep anysolo (s, m) i).1.withUnseen flg capacity r, (renderStep anysolo (s, m) i).2) := rfl

theorem renderVoices_withUnseen :
    renderVoices (s.withUnseen flg capacity r) = ((renderVoices s).1.withUnseen flg capacity r, (renderVoices s).2) :=
  List.foldl_hom (g₁ := renderStep (anySolo s)) (g₂ := renderStep (anySolo s)) (l := voiceIds) (init := (s, Mix.start))
    (fun x : State × Mix => (x.1.withUnseen flg capacity r, x.2)) fun x i =>
      renderStep_withUnseen x.1 flg capacity r (anySolo s) x.2 i

theorem echoRead_withUnseen : echoRead (s.withUnseen flg capacity r) = (echoRead s).withUnseen flg capacity r := rfl

theorem firOut_withUnseen : firOut (s.withUnseen flg capacity r) = firOut s := rfl

theorem ringPush_withUnseen (f : Frame) :
    ringPush f (s.withUnseen flg capacity r) = (ringPush f s).withUnseen flg capacity r := rfl

theorem raiseFault_withUnseen (k : Fault) :
    (s.withUnseen flg capacity r).raiseFault k = (s.raiseFault k).withUnseen flg capacity r := rfl

end Blind

section Unseen

variable {s : State} {flg : Byte} (same : SameFlg s flg) (capacity : Nat) (r : Option (List (List VoiceEmission)))
include same

theorem SameFlg.noiseRate : flg.toNat % 32 = s.regs.flg.toNat % 32 := by
  have low := congrArg BitVec.toNat same.low
  simp only [BitVec.extractLsb'_toNat, Nat.shiftRight_zero] at low
  omega

theorem SameFlg.echoWrite : flg.getLsbD 5 = s.regs.flg.getLsbD 5 := by
  simpa using congrArg (·.getLsbD 5) same.low

theorem SameFlg.bit_iff (k : Nat) : (s.params.flgSiliconEffects = true ∧ flg.getLsbD k = true) ↔
    (s.params.flgSiliconEffects = true ∧ s.regs.flg.getLsbD k = true) :=
  and_congr_right fun on => by rw [same.top on]

theorem renderStart_withUnseen :
    renderStart (s.withUnseen flg capacity r) = (renderStart s).withUnseen flg capacity r := by
  simp only [renderStart, State.withUnseen, same.noiseRate, same.bit_iff]

theorem tickRender_withUnseen :
    tickRender (s.withUnseen flg capacity r) = ((tickRender s).1.withUnseen flg capacity r, (tickRender s).2) := by
  rw [tickRender_eq, tickRender_eq, renderStart_withUnseen same, renderVoices_withUnseen]

theorem beforePush_withUnseen :
    beforePush (s.withUnseen flg capacity r) = (beforePush s).withUnseen flg capacity r := by
  rw [beforePush, beforePush, tickRender_withUnseen same, echoRead_withUnseen]

theorem outputFrame_withUnseen (m : Mix) (e : EchoOut) :
    outputFrame (s.withUnseen flg capacity r) m e = outputFrame s m e := by
  rw [outputFrame_eq, outputFrame_eq]
  simp only [State.withUnseen, same.bit_iff]

theorem afterPush_withUnseen :
    afterPush (s.withUnseen flg capacity r) = (afterPush s).withUnseen flg capacity r := by
  rw [afterPush, afterPush, outputFrame_beforePush, outputFrame_beforePush, outputFrame_withUnseen same,
    beforePush_withUnseen same, tickRender_withUnseen same, firOut_withUnseen, ringPush_withUnseen]

theorem echoWrite_mem_withUnseen (m : Mix) (e : EchoOut) :
    (echoWrite m e (s.withUnseen flg capacity r)).mem = (echoWrite m e s).mem := by
  have enabled : echoWriteEnabled (s.withUnseen flg capacity r) = echoWriteEnabled s := congrArg not same.echoWrite
  rw [echoWrite, echoWrite, enabled]
  split <;> rfl

theorem tickFinish_withUnseen (m : Mix) (e : EchoOut) :
    tickFinish m e (s.withUnseen flg capacity r) = (tickFinish m e s).withUnseen flg capacity
      (r.map (· ++ [voiceIds.map fun v => emission s.voices[v]])) := by
  rw [tickFinish_eq, tickFinish_eq, echoWrite_mem_withUnseen same]; rfl

end Unseen

/-! ## The whole tick -/

theorem tick_of_full {s : State} (full : s.params.ringCapacity ≤ s.ring.length) :
    tick s = (beforePush s).raiseFault .ringOverflow := by
  rcases tick_cases s with ⟨-, h⟩ | ⟨room, -⟩
  · exact h
  · omega

/-- What a receiver holding `r` holds after a tick of `s`: a completed tick appends a tuple for each voice (R242). -/
def delivered (s : State) (r : Option (List (List VoiceEmission))) : Option (List (List VoiceEmission)) :=
  if s.ring.length < s.params.ringCapacity then r.map (· ++ [voiceIds.map fun v => emission (tick s).voices[v]]) else r

theorem tick_withUnseen {s : State} {flg : Byte} (same : SameFlg s flg) (r : Option (List (List VoiceEmission))) :
    tick (s.withUnseen flg s.params.ringCapacity r) =
      (tick s).withUnseen flg s.params.ringCapacity (delivered s r) := by
  by_cases room : s.ring.length < s.params.ringCapacity
  · have voices : (tick s).voices = (afterPush s).voices := by
      rw [tick_of_room room]; exact (tickFinish_frame _ _ _).voices
    have same' : SameFlg (afterPush s) flg := by
      refine ⟨?_, ?_⟩
      · rw [(afterPush_frame s).regs]; exact same.low
      · rw [(afterPush_frame s).regs, (afterPush_frame s).params]; exact same.top
    have fir : firOut (beforePush (s.withUnseen flg s.params.ringCapacity r)) = firOut (beforePush s) := by
      rw [beforePush_withUnseen same, firOut_withUnseen]
    rw [delivered, if_pos room, voices, tick_of_room (s := s.withUnseen flg s.params.ringCapacity r) room,
      tick_of_room room, fir, tickRender_withUnseen same, afterPush_withUnseen same, tickFinish_withUnseen same']
  · have full : s.params.ringCapacity ≤ s.ring.length := Nat.le_of_not_lt room
    rw [delivered, if_neg room, tick_of_full (s := s.withUnseen flg s.params.ringCapacity r) full, tick_of_full full,
      beforePush_withUnseen same, raiseFault_withUnseen]

theorem tick_receiver (s : State) : (tick s).receiver = delivered s s.receiver := by
  have whole := congrArg State.receiver (tick_withUnseen (SameFlg.refl s) s.receiver)
  rw [State.withUnseen_self] at whole
  exact whole

/-- What the push and steps 6 to 9 do to the state before them is undone by putting back the ring and what only those steps
write. -/
theorem raiseFault_eq_tickFinish {s b : State} (old : UnfinishedFrame s b) (regs : b.regs = s.regs)
    (params : b.params = s.params) (ring : b.ring = s.ring) (m : Mix) (e : EchoOut) (f : Frame) (capacity : Nat)
    (r : Option (List (List VoiceEmission))) :
    b.raiseFault .ringOverflow = { tickFinish m e (ringPush f (b.withUnseen s.regs.flg capacity r)) with
      fault := some .ringOverflow, ring := s.ring, mem := s.mem, echoPos := s.echoPos, echoLen := s.echoLen,
      counter := s.counter, ticksTotal := s.ticksTotal, receiver := s.receiver, params := s.params } := by
  rw [tickFinish_eq, ← regs, ← params, ← ring, ← old.mem, ← old.echoPos, ← old.echoLen, ← old.counter, ← old.ticksTotal,
    ← old.receiver]
  rfl

/-- Settles O10: before the push the two ticks differ in the capacity alone (`beforePush_withUnseen`), and what follows it in
the tick with room writes only the fields the statement names. -/
theorem tickAtFullRingFaultsAtItsPush : Obligations.TickAtFullRingFaultsAtItsPush := by
  intro s full roomy
  have before : beforePush roomy = (beforePush s).withUnseen s.regs.flg (s.ring.length + 1) s.receiver :=
    beforePush_withUnseen (SameFlg.refl s) _ _
  have room : roomy.ring.length < roomy.params.ringCapacity := Nat.lt_succ_self _
  rw [tick_of_full full, tick_of_room room, afterPush, before]
  exact raiseFault_eq_tickFinish (beforePush_unfinished s) (beforePush_frame s).regs (beforePush_frame s).params
    (beforePush_ring s) _ _ _ _ _

/-! ## The top bits of FLG (R241) -/

/-- In Release at level 0. -/
def Voice.Silenced (v : Voice) : Prop := v.envMode = .release ∧ v.envLevel = 0

section Silenced

variable {x : Voice} (h : x.Silenced)
include h

theorem Voice.Silenced.nextBlock (m : Memory) (dir : Byte) : (nextBlock m dir x).Silenced := by
  refine ⟨nextBlock_keeps_release h.1 m dir, ?_⟩
  cases ends : x.decEnd with
  | false => rw [nextBlock_of_not_end ends]; exact h.2
  | true =>
    rw [nextBlock_of_end ends]
    show (if x.decLoop then x.envLevel else 0) = 0
    rw [h.2, ite_self]

theorem Voice.Silenced.advanceOne (m : Memory) (dir : Byte) : (advanceOne m dir x).Silenced := by
  by_cases last : x.decIndex + 1 = 16
  · rw [advanceOne_of_index_eq last]; exact Voice.Silenced.nextBlock (x := popSample x) h m dir
  · rw [advanceOne_of_index_ne last]; exact h

theorem Voice.Silenced.advanceMany (m : Memory) (dir : Byte) (n : Nat) : (advanceMany m dir n x).Silenced := by
  induction n generalizing x with
  | zero => exact h
  | succ n ih => exact ih (h.advanceOne m dir)

theorem Voice.Silenced.advance (m : Memory) (dir : Byte) (p : Nat) : (advance m dir p x).Silenced :=
  Voice.Silenced.advanceMany (x := { x with phase := x.phase + p }) h m dir _

theorem Voice.Silenced.envTick (c : Nat) : (envTick c x).Silenced := by
  rw [envTick_of_release h.1]
  exact ⟨h.1, by rw [h.2]⟩

end Silenced

/-- The soft reset of step 0 silences every voice, and no render ends that. -/
theorem tick_silenced {s : State} (on : s.params.flgSiliconEffects = true) (reset : s.regs.flg.getLsbD 7 = true)
    (v : VoiceId) : (tick s).voices[v].Silenced := by
  have start : (renderStart s).voices[v].Silenced := by
    simp only [renderStart, Fin.getElem_fin, Vector.getElem_ofFn, on, reset, and_self, if_true]
    exact ⟨rfl, rfl⟩
  rw [tick_voices, tickRender_eq]
  exact renderVoices_keeps_voice (P := Voice.Silenced) (fun t _ _ _ ht => (ht.advance t.mem t.regs.dir _).envTick t.counter)
    start

/-- Settles O21: with the effects off a tick does not see the two bits (`tick_withUnseen`); with them on, the voices are
`tick_silenced`'s and the frame is the mute's. -/
theorem flgTopBitsActOnlyWithSiliconEffects : Obligations.FlgTopBitsActOnlyWithSiliconEffects := by
  refine ⟨fun s flg off low => ?_, fun s on => ⟨fun reset v => tick_silenced on reset v, fun mute room => ?_⟩⟩
  · have same : SameFlg s flg := ⟨low, fun on => absurd (off.symm.trans on) Bool.false_ne_true⟩
    have unseen : tick { s with regs := { s.regs with flg := flg } } =
        (tick s).withUnseen flg s.params.ringCapacity (delivered s s.receiver) := tick_withUnseen same s.receiver
    rw [unseen, ← tick_receiver, ← (tick_frame s).regs, ← (tick_frame s).params]
    rfl
  · rw [tick_ring, if_pos room, outputFrame_beforePush, outputFrame_eq, if_pos ⟨on, mute⟩]

end Sys2Proof.Machine
end

section
/-! PROOFS. The state receiver through the operations (44_dsp_tick.md R242, 60_exceptions.md R384), and the obligation
`VisualizationOnlyReads`. -/

namespace Sys2Proof.Machine

/-! ## Updates that do not see the receiver -/

/-- `f` neither reads nor writes the receiver. -/
def IgnoresReceiver (f : State → State) : Prop :=
  ∀ (s : State) (r : Option (List (List VoiceEmission))), f { s with receiver := r } = { f s with receiver := r }

theorem IgnoresReceiver.comp {f g : State → State} (hg : IgnoresReceiver g) (hf : IgnoresReceiver f) :
    IgnoresReceiver fun s => g (f s) := fun s r => (congrArg g (hf s r)).trans (hg (f s) r)

theorem IgnoresReceiver.forMask (mask : Byte) {f : VoiceId → State → State} (hf : ∀ v, IgnoresReceiver (f v)) :
    IgnoresReceiver (State.forMask mask f) := fun s r => by
  refine List.foldl_hom (fun t : State => { t with receiver := r }) fun t v => ?_
  split
  · exact hf v t r
  · rfl

theorem IgnoresReceiver.forVoices {f : VoiceId → State → State} (hf : ∀ v, IgnoresReceiver (f v)) :
    IgnoresReceiver (State.forVoices f) := fun s r => by
  refine List.foldl_hom (fun t : State => { t with receiver := r }) fun t v => ?_
  exact hf v t r

theorem writeKon_ignoresReceiver (d : Byte) : IgnoresReceiver (writeKon d) :=
  (IgnoresReceiver.forMask d (f := keyOn) fun _ _ _ => rfl).comp fun _ _ => rfl

theorem writeKoff_ignoresReceiver (d : Byte) : IgnoresReceiver (writeKoff d) :=
  (IgnoresReceiver.forMask d (f := keyOff) fun _ _ _ => rfl).comp fun _ _ => rfl

theorem writeEndx_ignoresReceiver : IgnoresReceiver writeEndx := IgnoresReceiver.forVoices fun _ _ _ => rfl

theorem answer_ignoresReceiver (r : Response) : IgnoresReceiver (State.answer r) := fun _ _ => rfl

/-- No register write, read or voice control sees the receiver. -/
theorem accessEffect_ignoresReceiver {i : Instr} {f : State → State} (hi : accessEffect i = some f) :
    IgnoresReceiver f := by
  cases i
  case wrKon => cases hi; exact (answer_ignoresReceiver _).comp (writeKon_ignoresReceiver _)
  case wrKoff => cases hi; exact (answer_ignoresReceiver _).comp (writeKoff_ignoresReceiver _)
  case wrEndx => cases hi; exact (answer_ignoresReceiver _).comp writeEndx_ignoresReceiver
  case rdHigh | wrHigh | cyc | flush | load | pull | reset | reserved => cases hi
  all_goals cases hi; exact fun _ _ => rfl

theorem writeEffect_ignoresReceiver {a : Byte} (ha : a.msb = false) (d : Byte) :
    IgnoresReceiver fun t => (writeEffect a d t).answer .nothing :=
  accessEffect_ignoresReceiver (accessEffect_decodeWrite a d ha)

/-! ## States that differ in the receiver alone -/

/-- `t` is `s` but for the receiver, and has none if `absent`. -/
structure ButReceiver (absent : Prop) (s t : State) : Prop where
  rest : t = { s with receiver := t.receiver }
  stays : absent → t.receiver = none

variable {absent : Prop} {s t : State}

theorem ButReceiver.map (h : ButReceiver absent s t) {f : State → State} (hf : IgnoresReceiver f) :
    ButReceiver absent (f s) (f t) := by
  have moved : f t = { f s with receiver := t.receiver } := (congrArg f h.rest).trans (hf s t.receiver)
  rw [moved]
  exact ⟨rfl, h.stays⟩

theorem ButReceiver.fault (h : ButReceiver absent s t) : t.fault = s.fault := (congrArg State.fault h.rest :)

theorem tick_setReceiver (s : State) (r : Option (List (List VoiceEmission))) :
    tick { s with receiver := r } = { tick s with receiver := delivered s r } := by
  have unseen : tick { s with receiver := r } =
      (tick s).withUnseen s.regs.flg s.params.ringCapacity (delivered s r) := tick_withUnseen (SameFlg.refl s) r
  rw [unseen, ← (tick_frame s).regs, ← (tick_frame s).params]
  rfl

theorem delivered_none (s : State) : delivered s none = none := by
  unfold delivered
  split <;> rfl

theorem ButReceiver.tick (h : ButReceiver absent s t) : ButReceiver absent (tick s) (tick t) := by
  have moved : Machine.tick t = { Machine.tick s with receiver := delivered s t.receiver } :=
    (congrArg Machine.tick h.rest).trans (tick_setReceiver s t.receiver)
  rw [moved]
  exact ⟨rfl, fun none => by rw [h.stays none]; exact delivered_none s⟩

theorem ButReceiver.runTicks (h : ButReceiver absent s t) (n : Nat) :
    ButReceiver absent (runTicks n s) (runTicks n t) := by
  induction n generalizing s t with
  | zero => exact h
  | succ n ih =>
    have next := h.tick
    have fault := next.fault
    by_cases ok : (Machine.tick s).fault = none
    · have ok' : (Machine.tick t).fault = none := fault.trans ok
      rw [runTicks_succ n s ok, runTicks_succ n t ok']
      exact ih (next.map (f := State.spendTick) fun _ _ => rfl)
    · have faults' : (Machine.tick t).fault ≠ none := by rw [fault]; exact ok
      rw [runTicks_succ_of_fault n s ok, runTicks_succ_of_fault n t faults']
      exact next

theorem ButReceiver.flush (h : ButReceiver absent s t) : ButReceiver absent (flush s) (flush t) := by
  have cycles : t.accCycles = s.accCycles := (congrArg State.accCycles h.rest :)
  have start := h.map (f := State.setFlushing true) fun _ _ => rfl
  rw [Machine.flush, Machine.flush, cycles]
  exact (start.runTicks _).map (f := State.setFlushing false) fun _ _ => rfl

theorem ButReceiver.synced (h : ButReceiver absent s t) : ButReceiver absent s.synced t.synced := by
  have flushing : t.flushing = s.flushing := (congrArg State.flushing h.rest :)
  rw [State.synced, State.synced, flushing]
  split
  · exact h
  · exact h.flush

theorem ButReceiver.afterFlush (h : ButReceiver absent s t) {f : State → State} (hf : IgnoresReceiver f) :
    ButReceiver absent (afterFlush f s) (afterFlush f t) := by
  by_cases ok : s.fault = none
  · rw [afterFlush_of_ok f s ok, afterFlush_of_ok f t (h.fault.trans ok)]
    exact h.map hf
  · rw [afterFlush_of_fault f s ok, afterFlush_of_fault f t (h.fault ▸ ok)]
    exact h.map (answer_ignoresReceiver _)

theorem ButReceiver.loadWrites (h : ButReceiver absent s t) (data : Vector Byte 128) {l : List Nat}
    (hl : ∀ a ∈ l, (BitVec.ofNat 8 a).msb = false) : ButReceiver absent (loadWrites data l s) (loadWrites data l t) := by
  induction l generalizing s t with
  | nil => exact h
  | cons a rest ih =>
    obtain ⟨ha, hrest⟩ := List.forall_mem_cons.mp hl
    have written : ButReceiver absent (registerWrite (BitVec.ofNat 8 a) (data.toList.getD a 0) s)
        (registerWrite (BitVec.ofNat 8 a) (data.toList.getD a 0) t) :=
      h.synced.afterFlush (writeEffect_ignoresReceiver ha _)
    rw [Machine.loadWrites, Machine.loadWrites, written.fault]
    split
    · exact written
    · exact ih written hrest

/-! ## The operations -/

theorem ButReceiver.portOp (h : ButReceiver absent s t) {op : State → State}
    (hop : ButReceiver absent (op s) (op t)) {u : State} (hu : portOp op s = .next u) :
    ∃ w, Machine.portOp op t = .next w ∧ ButReceiver absent u w := by
  by_cases ok : s.fault = none
  · rw [portOp_of_ok op s ok] at hu
    cases hu
    exact ⟨op t, portOp_of_ok op t (h.fault.trans ok), hop⟩
  · rw [portOp_of_fault op s ok] at hu
    cases hu
    exact ⟨t.refuse, portOp_of_fault op t (h.fault ▸ ok), h.map (f := State.refuse) fun _ _ => rfl⟩

theorem ButReceiver.exec (h : ButReceiver absent s t) {i : Instr} {u : State} (hu : exec i s = .next u) :
    ∃ w, exec i t = .next w ∧ ButReceiver absent u w := by
  by_cases access : accessEffect i = none
  · cases i
    case rdHigh | wrHigh => exact h.portOp (h.map (answer_ignoresReceiver _)) hu
    case cyc n =>
      exact h.portOp (op := fun s => (s.addCycles n.toNat).answer .nothing)
        (h.map (f := fun s => (s.addCycles n.toNat).answer .nothing) fun _ _ => rfl) hu
    case flush =>
      exact h.portOp (op := fun s => (Machine.flush s).answer .nothing) (h.flush.map (answer_ignoresReceiver _)) hu
    case load data => exact h.portOp (h.loadWrites data loadOrder_low) hu
    case pull n => exact h.portOp (h.map (f := pullFrames n.toNat) fun _ _ => rfl) hu
    case reset => cases hu; exact ⟨_, rfl, h.map (f := State.resetCore) fun _ _ => rfl⟩
    case reserved => cases hu; exact ⟨_, rfl, h.map (f := State.refuse) fun _ _ => rfl⟩
    all_goals cases access
  · obtain ⟨f, hf⟩ := Option.ne_none_iff_exists'.mp access
    rw [exec_access i s f hf] at hu
    rw [exec_access i t f hf]
    exact h.portOp (h.synced.afterFlush (accessEffect_ignoresReceiver hf)) hu

/-- The tuple of a voice after a tick: what no tick writes is the voice's of before it. -/
theorem emission_tick (s : State) (v : VoiceId) :
    emission (tick s).voices[v] =
      { srcn := s.voices[v].regs.srcn, lastRaw := (tick s).voices[v].lastRaw, envLevel := (tick s).voices[v].envLevel,
        volL := s.voices[v].regs.volL, volR := s.voices[v].regs.volR, edge := s.voices[v].edge,
        konTick := s.voices[v].konTick } := by
  have kept := (tick_kept s).voices v
  rw [emission, kept.regs, kept.edge, kept.konTick]

/-- Settles O22: the next states differ in the receiver alone (`ButReceiver.exec`), and a completed tick delivers
`emission_tick` of every voice. -/
theorem visualizationOnlyReads : Obligations.VisualizationOnlyReads := by
  refine ⟨fun i s t r he => ?_, fun s got room attached => ?_⟩
  · have start : ButReceiver (r = none) s { s with receiver := r } := ⟨rfl, id⟩
    obtain ⟨w, hw, rest, stays⟩ := start.exec he
    exact ⟨w.receiver, by rw [hw, ← rest], stays⟩
  · refine ⟨Vector.ofFn fun v : VoiceId => emission (tick s).voices[v], ?_, fun v => ?_⟩
    · rw [tick_receiver, delivered, if_pos room, attached]
      simp [voiceIds, Vector.ofFn, List.ofFn_succ]
    · rw [← emission_tick]
      simp

end Sys2Proof.Machine
end

section
/-! PROOFS. The register port: what an access does once its flush is done or has faulted (45_register_port.md R260, R261),
and the obligations about the accesses. -/

namespace Sys2Proof.Machine

variable {s : State} {i : Instr} {f : State → State}

/-! ## The flush of an access -/

/-- An access whose flush completes is its effect on the flushed state. -/
theorem exec_access_of_ok (ok : s.fault = none) (flushed : s.synced.fault = none) (hi : accessEffect i = some f) :
    exec i s = .next (f s.synced) := by
  rw [exec_access i s f hi, portOp_of_ok _ s ok, afterFlush_of_ok f _ flushed]

theorem exec_access_of_ready (ready : Ready s) (hi : accessEffect i = some f) {t : State} (effect : f s.synced = t) :
    exec i s = .next t := by
  rw [exec_access_of_ok ready.1 ready.synced_fault hi, effect]

theorem synced_regs (s : State) : s.synced.regs = s.regs := (synced_kept s).regs

theorem synced_voice_regs (s : State) (v : VoiceId) : s.synced.voices[v].regs = s.voices[v].regs :=
  ((synced_kept s).voices v).regs

/-- A flush loop with more turns than free frames faults at the first tick that finds the ring full. -/
theorem runTicks_overflow (n : Nat) (ok : s.fault = none) (fits : s.ring.length ≤ s.params.ringCapacity)
    (short : s.params.ringCapacity < s.ring.length + n) : (runTicks n s).fault = some .ringOverflow := by
  induction n generalizing s with
  | zero => omega
  | succ n ih =>
    by_cases full : s.params.ringCapacity ≤ s.ring.length
    · have faults : (tick s).fault = some .ringOverflow := by rw [tick_fault s ok, if_pos full]
      rw [runTicks_succ_of_fault n s (by rw [faults]; exact Option.some_ne_none _), faults]
    · have completes : (tick s).fault = none := by rw [tick_fault s ok, if_neg full]
      have params : (tick s).params = s.params := (tick_frame s).params
      have one : (tick s).ring.length = s.ring.length + 1 := by
        rw [tick_ring, if_pos (by omega), List.length_append, List.length_singleton]
      rw [runTicks_succ n s completes]
      apply ih
      · rw [State.spendTick_fault, completes]
      · rw [State.spendTick_ring, State.spendTick_params, one, params]; omega
      · rw [State.spendTick_ring, State.spendTick_params, one, params]; omega

/-- A LOAD whose first write's flush faults ends there (46_host_port.md R352; log 18). -/
theorem loadWrites_of_flush_fault (data : Vector Byte 128) (a : Nat) (l : List Nat) (faults : s.synced.fault ≠ none) :
    loadWrites data (a :: l) s = s.synced.answer .nothing := by
  have ended : registerWrite (BitVec.ofNat 8 a) (data.toList.getD a 0) s = s.synced.answer .nothing :=
    afterFlush_of_fault _ _ faults
  rw [loadWrites, ended]
  exact if_pos (Option.isSome_iff_ne_none.mpr faults)

theorem flushesFirst_cases (h : flushesFirst i = true) : (∃ f, accessEffect i = some f) ∨ ∃ data, i = .load data := by
  cases i
  case load data => exact .inr ⟨data, rfl⟩
  case rdHigh | wrHigh | cyc | flush | pull | reset | reserved => cases h
  all_goals exact .inl ⟨_, rfl⟩

/-- Settles O42: the flush runs out of room (`runTicks_overflow`), and neither an access nor a LOAD goes on after it. -/
theorem accessEndsWhenItsFlushFaults : Obligations.AccessEndsWhenItsFlushFaults := by
  intro i s flushes ok idle fits short
  have overflow : (flush s).fault = some .ringOverflow := runTicks_overflow (s := s.setFlushing true) _ ok fits short
  refine ⟨?_, overflow⟩
  have flushed : s.synced = flush s := by rw [State.synced, idle]; rfl
  have faults : s.synced.fault ≠ none := by rw [flushed, overflow]; exact Option.some_ne_none _
  suffices h : exec i s = .next (s.synced.answer .nothing) by rw [h, flushed]; rfl
  rcases flushesFirst_cases flushes with ⟨f, hf⟩ | ⟨data, rfl⟩
  · rw [exec_access i s f hf, portOp_of_ok _ s ok, afterFlush_of_fault f _ faults]
  · obtain ⟨l, order⟩ : ∃ l, loadOrder = 0 :: l := ⟨_, rfl⟩
    exact (portOp_of_ok _ s ok).trans (by rw [order, loadWrites_of_flush_fault data 0 l faults])

/-- Settles O46: above 0x7F an access is its answer (`portIgnored`). -/
theorem highAddressesAreIgnored : Obligations.HighAddressesAreIgnored :=
  fun s _ _ ok => ⟨portOp_of_ok _ s ok, portOp_of_ok _ s ok⟩

/-! ## Reads -/

/-- A read answers with its value in the flushed state and changes nothing else. -/
theorem exec_read_of_ready (ready : Ready s) {value : State → Byte} {b : Byte}
    (hi : accessEffect i = some fun t => t.answer (.byte (value t))) (byte : value s.synced = b) :
    exec i s = .next { s.synced with response := .byte b } :=
  exec_access_of_ready ready hi (by rw [byte]; rfl)

/-- Settles O43: the flush keeps the register bytes (`synced_kept`). -/
theorem voiceRegisterReads : Obligations.VoiceRegisterReads := by
  intro s v ready r
  have hr : r = s.synced.voices[v].regs := (synced_voice_regs s v).symm
  rw [hr, ← synced_regs s]
  and_intros <;> exact exec_read_of_ready ready rfl rfl

/-- Settles O44: the flush keeps the register bytes and the key caches (`synced_kept`). -/
theorem globalRegisterReads : Obligations.GlobalRegisterReads := by
  intro s ready r
  have hr : r = s.synced.regs := (synced_regs s).symm
  rw [hr]
  and_intros <;> exact exec_read_of_ready ready rfl rfl

/-- The ENDX byte is the number with the voices' flags as its binary digits. -/
theorem endxByte_eq_ofBits (s : State) : endxByte s = BitVec.ofNat 8 (Nat.ofBits fun v : VoiceId => s.voices[v].endx) := by
  rw [endxByte]
  congr 1
  simp only [Fin.getElem_fin, voiceIds, Fin.isValue, List.map_cons, Fin.coe_ofNat_eq_mod, Nat.zero_mod, pow_zero, mul_one,
    Nat.one_mod, pow_one, Nat.reduceMod, Nat.reducePow, Nat.mod_succ, List.map_nil, List.sum_cons, List.sum_nil, add_zero,
    Nat.ofBits, Fin.foldr_succ, Fin.val_succ, Fin.val_eq_zero, zero_add, Nat.reduceAdd, Fin.foldr_zero, mul_zero]
  omega

theorem endxByte_getLsbD (s : State) (v : VoiceId) : (endxByte s).getLsbD v = s.voices[v].endx := by
  rw [endxByte_eq_ofBits, BitVec.getLsbD_ofNat, Nat.testBit_ofBits_lt _ _ v.isLt]
  simp

/-- Settles O45: each view is its function of the flushed state; ENDX bit by bit is `endxByte_getLsbD`. -/
theorem derivedAndUnusedReads : Obligations.DerivedAndUnusedReads := by
  intro s v ready
  have envx : readEnvx v s.synced = BitVec.ofNat 8 (s.synced.voices[v].envLevel / 16) := by
    rw [readEnvx, Voice.envx, Nat.shiftRight_eq_div_pow]
  exact ⟨exec_read_of_ready ready rfl envx, exec_read_of_ready ready rfl rfl,
    ⟨endxByte s.synced, endxByte_getLsbD s.synced, exec_read_of_ready ready rfl rfl⟩,
    exec_read_of_ready ready rfl rfl, exec_read_of_ready ready rfl rfl, exec_read_of_ready ready rfl rfl,
    exec_read_of_ready ready rfl rfl⟩

/-! ## Writes -/

/-- Settles O47: after the flush each write changes the one byte, SRCN the edge flag too. -/
theorem voiceRegisterWrites : Obligations.VoiceRegisterWrites := by
  intro s v d ready t x r
  and_intros <;> exact exec_access_of_ready ready rfl rfl

/-- Settles O48: the byte is written into the flushed state, whose register bytes are the old ones (`synced_kept`). -/
theorem globalRegisterWrites : Obligations.GlobalRegisterWrites := by
  intro s d ready t r
  have hr : r = t.regs := (synced_regs s).symm
  rw [hr]
  and_intros <;> exact exec_access_of_ready ready rfl rfl

/-- Settles O49: the effect of each of the six is `ignoreWrite`. -/
theorem ignoredWritesOnlyFlush : Obligations.IgnoredWritesOnlyFlush := by
  intro s v d ready i hi
  have ignored : accessEffect i = some fun t => (ignoreWrite t).answer .nothing := by
    simp only [List.mem_cons, List.not_mem_nil, or_false] at hi
    rcases hi with rfl | rfl | rfl | rfl | rfl | rfl <;> rfl
  exact exec_access_of_ready ready ignored rfl

/-! ## Writes that reach the voices of a mask -/

/-- A loop over the voices of a mask that does the same to each, whatever the voices before it have become (00_scope.md
R13). -/
theorem State.forMask_eq_ofFn (mask : Byte) {turn : VoiceId → State → State} {f : Voice → Voice} (s : State)
    (same : ∀ (v : VoiceId) (w : Vector Voice 8),
      turn v { s with voices := w } = State.updateVoice { s with voices := w } v f) :
    s.forMask mask turn =
      { s with voices := Vector.ofFn fun v : VoiceId => if mask.getLsbD v then f s.voices[v] else s.voices[v] } := by
  have turns (l : List VoiceId) (w : Vector Voice 8) :
      l.foldl (fun t v => turn v t) { s with voices := w } =
        l.foldl (fun t v => t.updateVoice v f) { s with voices := w } := by
    induction l generalizing w with
    | nil => rfl
    | cons v rest ih => rw [List.foldl_cons, List.foldl_cons, same]; exact ih _
  have once : (voiceIds.filter (maskBit mask)).Nodup := List.Nodup.filter _ (by decide)
  rw [State.forMask, ← List.foldl_filter, turns _ s.voices, foldl_updateVoice f once]
  simp only [List.mem_filter, mem_voiceIds, true_and, maskBit]

theorem writeKon_eq (d : Byte) (s : State) :
    writeKon d s = { s with
      regs := { s.regs with konCache := d }
      voices := Vector.ofFn fun v : VoiceId =>
        if d.getLsbD v then keyOnVoice s.mem s.regs.dir s.ticksTotal s.voices[v] else s.voices[v] } :=
  State.forMask_eq_ofFn d _ fun _ _ => rfl

theorem writeKon_voice (d : Byte) (s : State) (v : VoiceId) :
    (writeKon d s).voices[v] =
      if d.getLsbD v then keyOnVoice s.mem s.regs.dir s.ticksTotal s.voices[v] else s.voices[v] := by
  rw [writeKon_eq]
  exact Vector.getElem_ofFn v.isLt

theorem writeKoff_eq (d : Byte) (s : State) :
    writeKoff d s = { s with
      regs := { s.regs with koffCache := d }
      voices := Vector.ofFn fun v : VoiceId =>
        if d.getLsbD v then { s.voices[v] with envMode := .release } else s.voices[v] } :=
  State.forMask_eq_ofFn d (f := keyOffVoice) _ fun _ _ => rfl

theorem writeEndx_eq (s : State) :
    writeEndx s = { s with voices := Vector.ofFn fun v : VoiceId => { s.voices[v] with endx := false } } :=
  s.forVoices_updateVoice fun x => { x with endx := false }

theorem keyOnVoice_keyedOn (m : Memory) (dir : Byte) (ticks : Nat) (v : Voice) :
    KeyedOn m dir ticks v (keyOnVoice m dir ticks v) := by
  constructor <;> rfl

/-- Settles O50: the voices of the mask are keyed on (`writeKon_eq`), field by field as `keyOnVoice_keyedOn` says. -/
theorem konWriteKeysOnSetVoices : Obligations.KonWriteKeysOnSetVoices := by
  intro s d ready
  refine ⟨(writeKon d s.synced).answer .nothing, exec_access_of_ready ready rfl rfl, ?_,
    fun v => ⟨fun isSet => ?_, fun isClear => ?_⟩⟩
  · rw [writeKon_eq, synced_regs]; rfl
  · rw [State.answer_voices, writeKon_voice, if_pos isSet, ← synced_regs s]
    exact keyOnVoice_keyedOn ..
  · rw [State.answer_voices, writeKon_voice, if_neg (ne_true_of_eq_false isClear)]

/-- Settles O51: the effect is `writeKoff_eq`, with the register bytes the flush kept. -/
theorem koffWriteReleasesSetVoices : Obligations.KoffWriteReleasesSetVoices := by
  intro s d ready
  rw [← synced_regs s]
  exact exec_access_of_ready ready rfl (congrArg (State.answer .nothing) (writeKoff_eq d s.synced))

/-- Settles O52: the effect is `writeEndx_eq`. -/
theorem endxWriteClearsEveryFlag : Obligations.EndxWriteClearsEveryFlag := fun s _ ready =>
  exec_access_of_ready ready rfl (congrArg (State.answer .nothing) (writeEndx_eq s.synced))

/-! ## A write and then a read -/

/-- After an access of a ready state nothing is left to flush. -/
theorem accessEffect_quiet (ready : Ready s) (hi : accessEffect i = some f) :
    (f s.synced).fault = none ∧ (f s.synced).synced = f s.synced := by
  obtain ⟨u, r, frame, hu⟩ := accessEffect_frame hi s.synced
  rw [hu]
  refine ⟨frame.fault.trans ready.synced_fault, State.synced_of_quiet _ ?_⟩
  rw [State.answer_flushing, State.answer_accCycles, frame.flushing, frame.accCycles]
  exact ready.synced_quiet

/-- In each stored pair the value the read returns after the write's effect is the byte written. -/
theorem storedPairs_effect (v : VoiceId) (d : Byte) :
    ∀ wr ∈ storedPairs v d, ∃ (f : State → State) (value : State → Byte), accessEffect wr.1 = some f ∧
      (accessEffect wr.2 = some fun t => t.answer (.byte (value t))) ∧ ∀ t, value (f t) = d := by
  have voice (field : VoiceRegs → Byte) (f : Voice → Voice) (stored : ∀ x : Voice, field (f x).regs = d) (t : State) :
      field ((t.updateVoice v f).answer .nothing).voices[v].regs = d := by
    rw [State.answer_voices, State.updateVoice_getElem, if_pos rfl, stored]
  simp only [storedPairs, List.forall_mem_cons]
  exact ⟨⟨_, _, rfl, rfl, voice (·.volL) _ fun _ => rfl⟩, ⟨_, _, rfl, rfl, voice (·.volR) _ fun _ => rfl⟩,
    ⟨_, _, rfl, rfl, voice (·.pitchL) _ fun _ => rfl⟩, ⟨_, _, rfl, rfl, voice (·.pitchH) _ fun _ => rfl⟩,
    ⟨_, _, rfl, rfl, voice (·.srcn) _ fun _ => rfl⟩, ⟨_, _, rfl, rfl, voice (·.adsr1) _ fun _ => rfl⟩,
    ⟨_, _, rfl, rfl, voice (·.adsr2) _ fun _ => rfl⟩, ⟨_, _, rfl, rfl, voice (·.gain) _ fun _ => rfl⟩,
    ⟨_, _, rfl, rfl, fun _ => Vector.getElem_set_self _⟩, ⟨_, _, rfl, rfl, fun _ => rfl⟩,
    ⟨_, _, rfl, rfl, fun _ => rfl⟩, ⟨_, _, rfl, rfl, fun _ => rfl⟩, ⟨_, _, rfl, rfl, fun _ => rfl⟩,
    ⟨_, _, rfl, rfl, fun t => congrArg (·.regs.konCache) (writeKon_eq d t)⟩,
    ⟨_, _, rfl, rfl, fun t => congrArg (·.regs.koffCache) (writeKoff_eq d t)⟩, ⟨_, _, rfl, rfl, fun _ => rfl⟩,
    ⟨_, _, rfl, rfl, fun _ => rfl⟩, ⟨_, _, rfl, rfl, fun _ => rfl⟩, ⟨_, _, rfl, rfl, fun _ => rfl⟩,
    ⟨_, _, rfl, rfl, fun _ => rfl⟩, ⟨_, _, rfl, rfl, fun _ => rfl⟩, ⟨_, _, rfl, rfl, fun _ => rfl⟩,
    ⟨_, _, rfl, rfl, fun _ => rfl⟩, List.forall_mem_nil _⟩

/-- Settles O53: the read's flush changes nothing (`accessEffect_quiet`), and the byte is the one written
(`storedPairs_effect`). -/
theorem writeThenReadReturnsTheByte : Obligations.WriteThenReadReturnsTheByte := by
  intro s v d ready wr hwr
  obtain ⟨f, value, write, read, stored⟩ := storedPairs_effect v d wr hwr
  obtain ⟨ok, quiet⟩ := accessEffect_quiet ready write
  refine ⟨_, _, exec_access_of_ready ready write rfl, exec_access_of_ok ok (by rw [quiet, ok]) read, ?_⟩
  rw [quiet, State.answer_response, stored]

end Sys2Proof.Machine
end

section
/-! PROOFS. FLUSH and the operations of the host port that need at most one flush (46_host_port.md R350, R351, R353, R355,
R356): the flush loop turn by turn and the frames it makes, with the obligations `FlushRunsATickPer64Cycles`,
`FlushWithRoomCompletes`, `VctlSetsTheControls`, `CycOnlyAddsCycles` and `PullTakesTheOldestFrames`. -/

namespace Sys2Proof.Machine

/-- Settles O54: CYC is `addCycles` and its answer. -/
theorem cycOnlyAddsCycles : Obligations.CycOnlyAddsCycles := fun s n ok =>
  portOp_of_ok (fun s => (s.addCycles n.toNat).answer .nothing) s ok

/-- Settles O55: the frames returned are the ring's `take`, and the ring keeps its `drop`. -/
theorem pullTakesTheOldestFrames : Obligations.PullTakesTheOldestFrames := fun s n ok =>
  ⟨s.ring.take n.toNat, s.ring.drop n.toNat, (List.take_append_drop _ _).symm, List.length_take,
    portOp_of_ok (pullFrames n.toNat) s ok⟩

/-- Settles O56: after the flush VCTL is `setControls`. -/
theorem vctlSetsTheControls : Obligations.VctlSetsTheControls := fun _ _ _ _ ready => exec_access_of_ready ready rfl rfl

/-! ## The turns of the flush loop -/

variable {s : State}

theorem exec_flush_of_ok (ok : s.fault = none) : exec .flush s = .next ((flush s).answer .nothing) :=
  portOp_of_ok (fun s => (flush s).answer .nothing) s ok

theorem flush_of_cycles_lt (short : s.accCycles < 64) : flush s = s.setFlushing false := by
  rw [flush, Nat.div_eq_of_lt short]; rfl

/-- A flush whose first tick completes goes on as the flush with that tick's 64 cycles taken off. -/
theorem flush_of_tick_ok (enough : 64 ≤ s.accCycles) (completes : (tick (s.setFlushing true)).fault = none) :
    flush s = flush { tick (s.setFlushing true) with accCycles := s.accCycles - 64 } := by
  have frame := tick_frame (s.setFlushing true)
  have spent : (tick (s.setFlushing true)).spendTick =
      State.setFlushing true { tick (s.setFlushing true) with accCycles := s.accCycles - 64 } := by
    rw [State.spendTick, frame.accCycles]
    exact congrArg (fun b => { tick (s.setFlushing true) with accCycles := s.accCycles - 64, flushing := b }) frame.flushing
  rw [flush, Nat.div_eq_sub_div (by decide) enough, runTicks_succ _ _ completes, spent, flush]

/-- A flush whose first tick faults stops there. -/
theorem flush_of_tick_fault (enough : 64 ≤ s.accCycles) (faults : (tick (s.setFlushing true)).fault ≠ none) :
    flush s = (tick (s.setFlushing true)).setFlushing false := by
  rw [flush, Nat.div_eq_sub_div (by decide) enough, runTicks_succ_of_fault _ _ faults]

/-- Settles O39: no turn of the loop, a turn that completes (`flush_of_tick_ok`), or one that faults and takes no cycles off
(`flush_of_tick_fault`). -/
theorem flushRunsATickPer64Cycles : Obligations.FlushRunsATickPer64Cycles := by
  refine fun s ok => ⟨fun short => ?_, fun enough completes => ?_, fun enough faults => ?_⟩
  · rw [exec_flush_of_ok ok, flush_of_cycles_lt short]; rfl
  · rw [exec_flush_of_ok ok, flush_of_tick_ok enough completes]
    exact (exec_flush_of_ok (s := { tick (s.setFlushing true) with accCycles := s.accCycles - 64 }) completes).symm
  · refine ⟨_, exec_flush_of_ok ok, ?_, ?_⟩
    · rw [flush_of_tick_fault enough faults]; rfl
    · rw [flush_of_tick_fault enough faults]; exact (tick_frame (s.setFlushing true)).accCycles

/-! ## The frames of a flush -/

/-- The frames of a tick go after those already in the ring, and the tick count goes up by their number: by one for a tick
that completes, by none for one that faults. -/
theorem tick_frames_counted (s : State) : ∃ frames,
    (tick s).ring = s.ring ++ frames ∧ (tick s).ticksTotal = s.ticksTotal + frames.length := by
  by_cases room : s.ring.length < s.params.ringCapacity
  · exact ⟨[outputFrame (beforePush s) (tickRender s).2 (firOut (beforePush s))], by rw [tick_ring, if_pos room],
      (tick_counterStep room).2⟩
  · refine ⟨[], by rw [tick_ring, if_neg room, List.append_nil], ?_⟩
    rw [tick_of_full (Nat.le_of_not_lt room), State.raiseFault_ticksTotal, (beforePush_unfinished s).ticksTotal]
    rfl

theorem runTicks_frames_counted (n : Nat) (s : State) : ∃ frames,
    (runTicks n s).ring = s.ring ++ frames ∧ (runTicks n s).ticksTotal = s.ticksTotal + frames.length := by
  refine runTicks_keeps (fun t => ∃ frames, t.ring = s.ring ++ frames ∧ t.ticksTotal = s.ticksTotal + frames.length)
    (fun t ⟨made, ring, total⟩ => ?_) (fun _ counted => counted) n s ⟨[], (List.append_nil _).symm, rfl⟩
  obtain ⟨more, ring', total'⟩ := tick_frames_counted t
  refine ⟨made ++ more, ?_, ?_⟩
  · rw [ring', ring, List.append_assoc]
  · rw [total', total, List.length_append, Nat.add_assoc]

/-- Settles O40: with room the loop makes all its frames (`runTicks_room`), each counted as a tick
(`runTicks_frames_counted`), and the flush keeps what no tick writes (`flush_kept`). -/
theorem flushWithRoomCompletes : Obligations.FlushWithRoomCompletes := by
  intro s ok room
  obtain ⟨fault, length, cycles⟩ := runTicks_room (s.accCycles / 64) (s.setFlushing true) ok room
  obtain ⟨frames, ring, total⟩ := runTicks_frames_counted (s.accCycles / 64) (s.setFlushing true)
  have made : frames.length = s.accCycles / 64 := by
    rw [ring, List.length_append] at length; exact Nat.add_left_cancel length
  have kept := flush_kept s
  refine ⟨frames, exec_flush_of_ok ok, fault, rfl, fun idle => ?_, ?_, ring, made, made ▸ total, kept.regs, kept.refused,
    kept.params, kept.pending, kept.voices⟩
  · rw [State.synced, idle]; rfl
  · exact cycles.trans (Nat.mod_def _ _).symm

end Sys2Proof.Machine
end

section
/-! PROOFS. LOAD (46_host_port.md R352): its writes in order, row by row of the address map (30_encoding.md R91, R92), what
they leave in the register bytes and in each voice, and the obligation `LoadAppliesTheSnapshot`. -/

namespace Sys2Proof.Machine

/-- A LOAD of a ready state is its writes' effects in order on the flushed state. -/
theorem loadWrites_loadOrder {s : State} (ready : Ready s) (data : Vector Byte 128) :
    loadWrites data loadOrder s =
      loadOrder.foldl (fun t a => writeEffect (BitVec.ofNat 8 a) (data.toList.getD a 0) t) (s.synced.answer .nothing) := by
  obtain ⟨l, order⟩ : ∃ l, loadOrder = 0 :: l := ⟨_, rfl⟩
  rw [order, loadWrites_of_ready data 0 l s ready]
  rfl

/-! ## A row of the address map -/

/-- The write of each column of the address map, by its select (30_encoding.md R91, R92). -/
def columnWrites : List (VoiceId → Byte → State → State) :=
  [writeVoll, writeVolr, writePitchl, writePitchh, writeSrcn, writeAdsr1, writeAdsr2, writeGain,
   fun _ _ => ignoreWrite, fun _ _ => ignoreWrite, fun _ _ => ignoreWrite, fun _ _ => ignoreWrite,
   writeColumnC, writeColumnD, fun _ _ => ignoreWrite, writeFir]

theorem writeEffect_registerAddress (v : VoiceId) (x : BitVec 4) (d : Byte) (t : State) :
    writeEffect (registerAddress v x) d t = (columnWrites[x.toNat]'x.isLt) v d t := by
  rw [writeEffect, voiceField_registerAddress, selectField_registerAddress]
  obtain ⟨x⟩ := x
  fin_cases x <;> rfl

theorem ofNat_row_address : ∀ (v : VoiceId) (x : BitVec 4),
    BitVec.ofNat 8 (0x10 * v.val + x.toNat) = registerAddress v x := by decide

/-- The selects of row `v` that LOAD writes before KON: all but those of KON and KOFF, rows 4 and 5 of column 0xC. -/
def loadSelects (v : VoiceId) : List (BitVec 4) :=
  [0x0, 0x1, 0x2, 0x3, 0x4, 0x5, 0x6, 0x7, 0x8, 0x9, 0xA, 0xB] ++ (if v = 4 ∨ v = 5 then [] else [0xC]) ++ [0xD, 0xE, 0xF]

theorem loadOrder_eq :
    loadOrder = (voiceIds.flatMap fun v => (loadSelects v).map fun x => 0x10 * v.val + x.toNat) ++ [0x4C] := by decide

/-- What the writes of row `v` make of the state: the voice's register bytes with its edge flag, the row's global registers
and its FIR coefficient. -/
def loadRow (data : Vector Byte 128) (t : State) (v : VoiceId) : State :=
  let byte (x : Nat) : Byte := data.toList.getD (0x10 * v.val + x) 0
  let t := t.updateVoice v fun x => { x with regs := loadedVoiceRegs data v, edge := true }
  let t := if v = 4 ∨ v = 5 then t else writeColumnC v (byte 0xC) t
  writeFir v (byte 0xF) (writeColumnD v (byte 0xD) t)

theorem State.updateVoice_updateVoice (t : State) (v : VoiceId) (f g : Voice → Voice) :
    (t.updateVoice v f).updateVoice v g = t.updateVoice v fun x => g (f x) := by
  simp only [State.updateVoice, State.setVoice, Fin.getElem_fin, Vector.getElem_set_self, Vector.set_set]

theorem foldl_loadSelects (data : Vector Byte 128) (t : State) (v : VoiceId) :
    (loadSelects v).foldl (fun t x =>
      writeEffect (BitVec.ofNat 8 (0x10 * v.val + x.toNat)) (data.toList.getD (0x10 * v.val + x.toNat) 0) t) t =
      loadRow data t v := by
  simp only [ofNat_row_address, writeEffect_registerAddress]
  rw [loadRow, loadSelects]
  split <;>
    simp [columnWrites, writeVoll, writeVolr, writePitchl, writePitchh, writeSrcn, writeAdsr1, writeAdsr2, writeGain,
      ignoreWrite, State.updateVoice_updateVoice, loadedVoiceRegs]

theorem writeEffect_kon (d : Byte) (t : State) : writeEffect 0x4C d t = writeKon d t :=
  writeEffect_registerAddress 4 0xC d t

/-- LOAD's writes are those of the eight rows, and then KON's. -/
theorem foldl_loadOrder (data : Vector Byte 128) (t : State) :
    loadOrder.foldl (fun t a => writeEffect (BitVec.ofNat 8 a) (data.toList.getD a 0) t) t =
      writeKon (data.toList.getD 0x4C 0) (voiceIds.foldl (loadRow data) t) := by
  rw [loadOrder_eq, List.foldl_append, List.foldl_flatMap]
  simp only [List.foldl_map, foldl_loadSelects, List.foldl_cons, List.foldl_nil]
  exact writeEffect_kon _ _

/-! ## A voice through the rows -/

theorem writeColumnC_voice (v w : VoiceId) (other : ¬ (v = 4 ∨ v = 5)) (d : Byte) (t : State) :
    (writeColumnC v d t).voices[w] = { t.voices[w] with endx := decide (v ≠ 7) && t.voices[w].endx } := by
  have endx : (writeEndx t).voices[w] = { t.voices[w] with endx := false } := by
    rw [writeEndx_eq]; exact Vector.getElem_ofFn w.isLt
  fin_cases v
  exacts [rfl, rfl, rfl, rfl, absurd (.inl rfl) other, absurd (.inr rfl) other, rfl, endx]

theorem writeColumnD_voices (v : VoiceId) (d : Byte) (t : State) : (writeColumnD v d t).voices = t.voices := by
  fin_cases v <;> rfl

/-- What the writes of row `v` make of voice `w`: ENDX, in row 7, clears the flag of every voice. -/
def loadRowVoice (data : Vector Byte 128) (w : VoiceId) (x : Voice) (v : VoiceId) : Voice := { x with
  regs := if w = v then loadedVoiceRegs data v else x.regs
  edge := decide (w = v) || x.edge
  endx := decide (v ≠ 7) && x.endx }

theorem loadRow_voice (data : Vector Byte 128) (t : State) (v w : VoiceId) :
    (loadRow data t v).voices[w] = loadRowVoice data w t.voices[w] v := by
  have bytes : (t.updateVoice v fun x => { x with regs := loadedVoiceRegs data v, edge := true }).voices[w] =
      { t.voices[w] with
        regs := if w = v then loadedVoiceRegs data v else t.voices[w].regs
        edge := decide (w = v) || t.voices[w].edge } := by
    rw [State.updateVoice_getElem]
    by_cases same : w = v
    · subst same; simp
    · simp [same]
  simp only [loadRow, writeFir, writeColumnD_voices]
  split
  case isTrue unnamed =>
    have notLast : v ≠ 7 := by rcases unnamed with rfl | rfl <;> decide
    rw [bytes, loadRowVoice, decide_eq_true notLast]
    rfl
  case isFalse other => rw [writeColumnC_voice v w other, bytes, loadRowVoice]

/-- Row `w` loads voice `w`, and the ENDX write of row 7 clears its flag. -/
theorem foldl_loadRow_voice (data : Vector Byte 128) (t : State) (w : VoiceId) :
    (voiceIds.foldl (loadRow data) t).voices[w] =
      { t.voices[w] with regs := loadedVoiceRegs data w, edge := true, endx := false } := by
  have rows : (voiceIds.foldl (loadRow data) t).voices[w] = voiceIds.foldl (loadRowVoice data w) t.voices[w] :=
    (List.foldl_hom (fun t : State => t.voices[w]) fun t v => (loadRow_voice data t v w).symm).symm
  rw [rows]
  fin_cases w <;> simp [voiceIds, loadRowVoice]

/-! ## The global registers through the rows -/

/-- The global registers of row `v`, columns 0xC and 0xD and the FIR coefficient (30_encoding.md R92), without the key
caches. -/
def loadRowRegs (data : Vector Byte 128) (r : Regs) (v : VoiceId) : Regs :=
  let byte (a : Nat) : Byte := data.toList.getD a 0
  let r := { r with fir := r.fir.set v (byte (0x10 * v.val + 0xF)) }
  match v with
  | 0 => { r with mvolL := byte 0x0C, efb := byte 0x0D }
  | 1 => { r with mvolR := byte 0x1C }
  | 2 => { r with evolL := byte 0x2C, pmon := byte 0x2D }
  | 3 => { r with evolR := byte 0x3C, non := byte 0x3D }
  | 4 => { r with eon := byte 0x4D }
  | 5 => { r with dir := byte 0x5D }
  | 6 => { r with flg := byte 0x6C, esa := byte 0x6D }
  | 7 => { r with edl := byte 0x7D }

theorem loadRow_regs (data : Vector Byte 128) (t : State) (v : VoiceId) :
    (loadRow data t v).regs = loadRowRegs data t.regs v := by
  fin_cases v <;> rfl

theorem set_each_of_eight {α : Type} (f : Vector α 8) (a b c d e g h i : α) :
    (((((((f.set 0 a).set 1 b).set 2 c).set 3 d).set 4 e).set 5 g).set 6 h).set 7 i = #v[a, b, c, d, e, g, h, i] := by
  ext k hk
  interval_cases k <;> simp

theorem snapshot_byte (data : Vector Byte 128) {a : Nat} (ha : a < 128) : data.toList.getD a 0 = data[a] := by
  simp [ha]

theorem foldl_loadRow_regs (data : Vector Byte 128) (t : State) :
    (voiceIds.foldl (loadRow data) t).regs =
      { loadedRegs data t.regs.koffCache with konCache := t.regs.konCache } := by
  have rows : (voiceIds.foldl (loadRow data) t).regs = voiceIds.foldl (loadRowRegs data) t.regs :=
    (List.foldl_hom State.regs fun t v => (loadRow_regs data t v).symm).symm
  rw [rows, loadedRegs, ← set_each_of_eight t.regs.fir]
  simp only [← snapshot_byte]
  rfl

/-! ## The snapshot applied -/

theorem WriteFrame.eq {s t : State} (h : WriteFrame s t) : t = { s with voices := t.voices, regs := t.regs } := by
  cases t
  cases s
  obtain ⟨rfl, rfl, rfl, rfl, rfl, rfl, rfl, rfl, rfl, rfl, rfl, rfl, rfl, rfl, rfl, rfl, rfl⟩ := h
  rfl

theorem foldl_loadRow_frame (data : Vector Byte 128) (t : State) : WriteFrame t (voiceIds.foldl (loadRow data) t) := by
  refine foldl_keeps (WriteFrame t) (loadRow data) (fun u v hu => hu.trans ?_) voiceIds t (.refl t)
  rw [← foldl_loadSelects]
  exact foldl_keeps (WriteFrame u) _ (fun y x hy => hy.trans (writeEffect_frame _ _ y)) (loadSelects v) u (.refl u)

/-- Settles O57: the rows load every voice and global register (`foldl_loadRow_voice`, `foldl_loadRow_regs`), and the KON
write at the end keys on from that state (`writeKon_voice`). -/
theorem loadAppliesTheSnapshot : Obligations.LoadAppliesTheSnapshot := by
  intro s data ready
  have result : exec (.load data) s =
      .next (writeKon (data.toList.getD 0x4C 0) (voiceIds.foldl (loadRow data) (s.synced.answer .nothing))) := by
    rw [← foldl_loadOrder, ← loadWrites_loadOrder ready]
    exact portOp_of_ok (loadWrites data loadOrder) s ready.1
  have frame := foldl_loadRow_frame data (s.synced.answer .nothing)
  have regs := foldl_loadRow_regs data (s.synced.answer .nothing)
  have voice := foldl_loadRow_voice data (s.synced.answer .nothing)
  rw [snapshot_byte data (by decide)] at result
  generalize voiceIds.foldl (loadRow data) (s.synced.answer .nothing) = u at result frame regs voice
  have koff : s.synced.regs.koffCache = s.regs.koffCache := by rw [synced_regs]
  refine ⟨_, result, ?_, fun v => ⟨fun isSet => ?_, fun isClear => ?_⟩⟩
  · rw [(frame.trans (writeKon_frame _ u)).eq, writeKon_eq, regs, ← koff]; rfl
  · rw [writeKon_voice, if_pos isSet, frame.mem, frame.ticksTotal, regs, voice]
    exact keyOnVoice_keyedOn ..
  · rw [writeKon_voice, if_neg (ne_true_of_eq_false isClear), voice]; rfl

end Sys2Proof.Machine
end

section
/-! PROOFS. Reset, and the operations a core refuses (60_exceptions.md R372 to R374; 70_reset_and_hazards.md R390, R391): the
obligations `InvariantHoldsAtReset`, `ResetRestoresEveryField`, `ReservedWordsAreRefused` and `FaultedCoreRefusesAllButReset`. -/

namespace Sys2Proof.Machine

/-! ## The reset state -/

theorem reset_voice (v : VoiceId) : State.reset.voices[v] = Voice.reset := by simp [State.reset]

theorem reset_histL (k : VoiceId) : State.reset.histL[k] = 0 := by simp [State.reset]

theorem reset_histR (k : VoiceId) : State.reset.histR[k] = 0 := by simp [State.reset]

/-- Settles O7: the voices are in range (`voiceReset_ok`), the histories are 0, the capacity is at least 1 whatever its free
value, and the other fields are evaluated. -/
theorem invariantHoldsAtReset : Obligations.InvariantHoldsAtReset where
  voices v := reset_voice v ▸ voiceReset_ok
  noise := show (0x4000 : BitVec 15) ≠ 0 by decide
  counter := Nat.zero_lt_succ _
  echoPos := ⟨rfl, .inl rfl⟩
  echoLen := ⟨rfl, Nat.zero_le _⟩
  histL k := reset_histL k ▸ inHistory_zero
  histR k := reset_histR k ▸ inHistory_zero
  capacity := Nat.le_add_left 1 Config.ringCapacityBeyondOne
  ring := Nat.zero_le _
  frames _ hf := nomatch hf
  notFlushing := rfl
  fault faulted := absurd rfl faulted
  memory := Memory.reset_wf

/-- RESET is accepted whether the core is faulted or not. -/
theorem exec_reset (s : State) : exec .reset s = .next s.resetCore := rfl

/-- Settles O58: RESET is `State.resetCore`, which takes memory and parameters from the state and the core from
`State.reset`. -/
theorem resetRestoresEveryField : Obligations.ResetRestoresEveryField := fun s =>
  ⟨s.resetCore, exec_reset s, reset_voice, rfl, rfl, rfl, rfl, rfl, rfl, rfl, rfl, rfl, rfl, rfl, rfl, rfl, rfl, rfl⟩

/-! ## Refused operations -/

theorem decode_of_le_opField {p : PortWord} (high : 8 ≤ (opField p.word).toNat) : decode p = .reserved := by
  have other (op : BitVec 4) (low : op.toNat < 8) : opField p.word ≠ op := fun same => by
    rw [same] at high; omega
  simp only [decode, if_neg (other 0x0 (by decide)), if_neg (other 0x1 (by decide)), if_neg (other 0x2 (by decide)),
    if_neg (other 0x3 (by decide)), if_neg (other 0x4 (by decide)), if_neg (other 0x5 (by decide)),
    if_neg (other 0x6 (by decide)), if_neg (other 0x7 (by decide))]

/-- The row of the reserved codes matches no word with a lower code. -/
theorem le_opField_of_reserved_fits {w : BitVec 32} (fits : Instr.reserved.fits w = true) : 8 ≤ (opField w).toNat := by
  have byCode : ∀ op : BitVec 4, Instr.reserved.fits (countWord op 0).word = true → 8 ≤ op.toNat := by decide
  have code : w &&& 0xF0000000#32 = (countWord (opField w) 0).word &&& 0xF0000000#32 := by
    rw [and_opcode, and_opcode, opField_countWord]
  apply byCode
  rw [← fits, Instr.fits, Instr.fits, TableRow.matches_congr (by decide) code]

/-- Settles O59: a word that decodes to RESERVED matches that operation's row (`decode_fits`), which no code below 8 does. -/
theorem reservedWordsAreRefused : Obligations.ReservedWordsAreRefused :=
  ⟨fun p => ⟨fun reserved => le_opField_of_reserved_fits (reserved ▸ decode_fits p), decode_of_le_opField⟩, fun _ => rfl⟩

/-- 60_exceptions.md R373, R374: of the cases of `exec` a faulted core leaves the refusal, and RESET. -/
theorem exec_of_fault {s : State} (faulted : s.fault ≠ none) {i : Instr} (other : i ≠ .reset) :
    exec i s = .next s.refuse := by
  obtain ⟨t, he⟩ := exec_completes i s
  rcases exec_cases i s t he with ⟨reset, -⟩ | ⟨-, rfl⟩ | ⟨-, -, rfl⟩ | ⟨ok, -⟩
  · exact absurd reset other
  · exact he
  · exact he
  · exact absurd ok faulted

/-- Settles O60: the refusal is `exec_of_fault`, and the reset state has no fault. -/
theorem faultedCoreRefusesAllButReset : Obligations.FaultedCoreRefusesAllButReset := fun s faulted =>
  ⟨fun _ other => exec_of_fault faulted other, s.resetCore, exec_reset s, rfl⟩

end Sys2Proof.Machine
end

section
/-! PROOFS. A flush that runs out of room (60_exceptions.md R371; 70_reset_and_hazards.md R407): the ticks that fill the ring,
the tick that faults, and the obligation `FlushWithoutRoomOverflows`. -/

namespace Sys2Proof.Machine

variable {s : State}

/-- A flush loop is its first `k` turns and then the others, unless one of the first faults. -/
theorem runTicks_add (k n : Nat) (ok : (runTicks k s).fault = none) : runTicks (k + n) s = runTicks n (runTicks k s) := by
  induction k generalizing s with
  | zero => rw [Nat.zero_add, runTicks_zero]
  | succ k ih =>
    by_cases completes : (tick s).fault = none
    · rw [runTicks_succ k s completes] at ok ⊢
      rw [Nat.succ_add, runTicks_succ _ s completes, ih ok]
    · rw [runTicks_succ_of_fault k s completes] at ok
      exact absurd ok completes

/-- A flush loop at a full ring is its one faulting tick, which keeps the ring and the pending cycles. -/
theorem runTicks_of_full (n : Nat) (full : s.params.ringCapacity ≤ s.ring.length) :
    (runTicks (n + 1) s).ring = s.ring ∧ (runTicks (n + 1) s).accCycles = s.accCycles := by
  have faults : (tick s).fault ≠ none := by
    rw [tick_of_full full, State.raiseFault_fault]; exact Option.some_ne_none _
  rw [runTicks_succ_of_fault n s faults]
  exact ⟨by rw [tick_ring, if_neg full.not_gt], (tick_frame s).accCycles⟩

/-- With more turns than free frames, a flush loop makes the free frames and takes off the cycles of their ticks alone. -/
theorem runTicks_fills_ring (n : Nat) (ok : s.fault = none) (fits : s.ring.length ≤ s.params.ringCapacity)
    (short : s.params.ringCapacity < s.ring.length + n) :
    (runTicks n s).ring.length = s.params.ringCapacity ∧
      (runTicks n s).accCycles = s.accCycles - 64 * (s.params.ringCapacity - s.ring.length) := by
  obtain ⟨free, capacity⟩ := Nat.exists_eq_add_of_le fits
  obtain ⟨rest, rfl⟩ : ∃ rest, n = free + (rest + 1) := ⟨n - free - 1, by omega⟩
  obtain ⟨completes, length, cycles⟩ := runTicks_room free s ok capacity.ge
  have full : (runTicks free s).params.ringCapacity ≤ (runTicks free s).ring.length := by
    rw [(runTicks_kept free s).params, length, capacity]
  obtain ⟨ring, pending⟩ := runTicks_of_full rest full
  rw [runTicks_add free (rest + 1) completes, ring, pending, length, cycles, capacity, Nat.add_sub_cancel_left]
  exact ⟨rfl, rfl⟩

/-- Settles O41: the loop faults (`runTicks_overflow`) with the ring full and only the completed ticks' cycles taken off
(`runTicks_fills_ring`), and each of its frames is a tick counted (`runTicks_frames_counted`). -/
theorem flushWithoutRoomOverflows : Obligations.FlushWithoutRoomOverflows := by
  intro s ok fits short
  have fault := runTicks_overflow (s := s.setFlushing true) _ ok fits short
  obtain ⟨length, cycles⟩ := runTicks_fills_ring (s := s.setFlushing true) _ ok fits short
  obtain ⟨frames, ring, total⟩ := runTicks_frames_counted (s.accCycles / 64) (s.setFlushing true)
  have made : s.params.ringCapacity - s.ring.length = frames.length := by
    rw [ring, List.length_append] at length
    exact Nat.sub_eq_of_eq_add' length.symm
  exact ⟨_, frames, exec_flush_of_ok ok, fault, ring, length, made ▸ cycles, total, (flush_kept s).regs⟩

end Sys2Proof.Machine
end

section
/-! PROOFS. The ticks straight after reset (70_reset_and_hazards.md R393): what they keep of the reset state, the echo frame
they read, and the obligation `TicksAfterResetAreSilent`. -/

namespace Sys2Proof.Machine

/-! ## What a tick keeps of the reset state -/

/-- What every tick after reset keeps: the voices, the register bytes, the noise word and the echo cursor as reset left them,
memory `m` as the host left it, and nothing but silent frames in the ring. -/
structure AsReset (m : Memory) (s : State) : Prop where
  voices : ∀ v : VoiceId, s.voices[v] = Voice.reset
  regs : s.regs = Regs.reset
  noise : s.noise = 0x4000
  counter : s.counter < 30720
  echoPos : s.echoPos = 0
  echoLen : s.echoLen = 0
  mem : s.mem = m
  kernel : s.params.kernel = .gaussian
  effects : s.params.flgSiliconEffects = false
  silent : ∀ f ∈ s.ring, f = ⟨0, 0⟩

theorem volumeScale_by_zero (x : Sample) : volumeScale x 0x00 = 0 := by
  simp [volumeScale, signedByte]

theorem interpolateGaussian_silent (t : GaussTable) (phase : Nat) : interpolateGaussian t ⟨0, 0, 0, 0⟩ phase = 0 := by
  have zero : clearBit0 (clamp16 (wrap16 0)) = 0 := by decide
  simpa [interpolateGaussian] using zero

/-- A voice at pitch 0 takes no sample. -/
theorem advance_reset (m : Memory) (dir : Byte) : advance m dir 0 Voice.reset = Voice.reset := rfl

/-- Release stays at level 0. -/
theorem envTick_reset (c : Nat) : envTick c Voice.reset = Voice.reset := rfl

variable {m : Memory} {s : State}

section Kept

variable (h : AsReset m s)
include h

/-- FLG after reset gives the noise the rate 0, which never fires, and its soft reset acts only with the effects on. -/
theorem AsReset.tickRender : tickRender s = renderVoices s := by
  have soft : flgSiliconEffects s = s := by rw [flgSiliconEffects, h.effects]; rfl
  have rate : noiseRate s = 0 := by rw [noiseRate, h.regs]; rfl
  have step : noiseStep s = s := by rw [noiseStep, rate, counterFires_zero h.counter]; rfl
  rw [Machine.tickRender, soft, step]

theorem AsReset.effectivePitch (i : VoiceId) (hIn : Sample) : effectivePitch s.regs.pmon i s.voices[i] hIn = 0 := by
  have off : maskBit s.regs.pmon i = false := by rw [h.regs]; exact BitVec.getLsbD_zero
  rw [effectivePitch_of_unmodulated (.inr off), h.voices]
  rfl

theorem AsReset.rawSample (i : VoiceId) : rawSample s i = 0 := by
  have off : maskBit s.regs.non i = false := by rw [h.regs]; exact BitVec.getLsbD_zero
  rw [Machine.rawSample, off, h.voices, interpolate_gaussian h.kernel]
  exact interpolateGaussian_silent _ _

theorem AsReset.renderVoice (i : VoiceId) (hIn : Sample) (anysolo : Bool) :
    (renderVoice s i hIn anysolo).voice = Voice.reset := by
  rw [renderVoice_voice, h.effectivePitch, h.rawSample, h.voices, advance_reset, envTick_reset]
  rfl

theorem AsReset.tick_voices (v : VoiceId) : (tick s).voices[v] = Voice.reset := by
  rw [Machine.tick_voices, h.tickRender, (renderVoices_rendered s).done v v.isLt]
  exact h.renderVoice v _ _

theorem AsReset.tick_noise : (tick s).noise = 0x4000 := by
  rw [Machine.tick_noise, h.tickRender, (renderVoices_rendered s).rest, ← h.noise]

/-- All four volumes are 0 after reset, so a frame is silent whatever the mix and the filters give. -/
theorem AsReset.outputFrame (mix : Mix) (e : EchoOut) : outputFrame s mix e = ⟨0, 0⟩ := by
  have silence : clamp16 (wrap16 0 + wrap16 0) = 0 := by decide
  simp only [outputFrame_eq, h.effects, h.regs, Regs.reset, outputSample, volumeScale_by_zero, silence, ite_self]

theorem AsReset.tick_silent : ∀ f ∈ (tick s).ring, f = ⟨0, 0⟩ := by
  rw [tick_ring, outputFrame_beforePush, h.outputFrame]
  split
  · exact List.forall_mem_append.mpr ⟨h.silent, List.forall_mem_singleton.mpr rfl⟩
  · exact h.silent

/-- Length 0 is latched at cursor 0, and the cursor starts again after every frame (44_dsp_tick.md R239). -/
theorem AsReset.tick_cursors : (tick s).counter < 30720 ∧ (tick s).echoPos = 0 ∧ (tick s).echoLen = 0 := by
  rcases Nat.lt_or_ge s.ring.length s.params.ringCapacity with room | full
  · obtain ⟨len, pos⟩ := tick_echoCursor room
    have zeroLength : echoLength s.regs.edl = 0 := by rw [h.regs]; rfl
    have restart : (echoCursor s).echoPos = 0 ∧ (echoCursor s).echoLen = 0 := by simp [echoCursor, h.echoPos, zeroLength]
    refine ⟨?_, pos.trans restart.1, len.trans restart.2⟩
    rw [(tick_counterStep room).1, counterStep]
    dsimp only
    split <;> omega
  · have old := beforePush_unfinished s
    rw [tick_of_full full, State.raiseFault_counter, State.raiseFault_echoPos, State.raiseFault_echoLen, old.counter,
      old.echoPos, old.echoLen]
    exact ⟨h.counter, h.echoPos, h.echoLen⟩

theorem AsReset.tick : AsReset m (tick s) := by
  have frame := tick_frame s
  obtain ⟨counter, echoPos, echoLen⟩ := h.tick_cursors
  have echoOff : s.regs.flg.getLsbD 5 = true := by rw [h.regs]; rfl
  exact {
    voices := h.tick_voices
    regs := frame.regs.trans h.regs
    noise := h.tick_noise
    counter, echoPos, echoLen
    mem := (tick_mem_of_echo_disabled echoOff).trans h.mem
    kernel := frame.params.symm ▸ h.kernel
    effects := frame.params.symm ▸ h.effects
    silent := h.tick_silent }

end Kept

theorem AsReset.voices_eq (h : AsReset m s) : s.voices = State.reset.voices := by
  ext1 i hi
  exact (h.voices ⟨i, hi⟩).trans (reset_voice ⟨i, hi⟩).symm

theorem AsReset.spendTick (h : AsReset m s) : AsReset m s.spendTick := { h with }

/-! ## The echo frame read -/

/-- The newest history entries are the two samples at addresses 0 to 3 of `m`, halved. -/
structure HeardFrameAtZero (m : Memory) (s : State) : Prop where
  left : s.histL[7] = (Memory.read m 1 ++ Memory.read m 0 : BitVec 16).toInt >>> 1
  right : s.histR[7] = (Memory.read m 3 ++ Memory.read m 2 : BitVec 16).toInt >>> 1

theorem HeardFrameAtZero.spendTick (h : HeardFrameAtZero m s) : HeardFrameAtZero m s.spendTick := ⟨h.left, h.right⟩

/-- ESA and the echo cursor are 0 after reset, so every tick reads the frame at address 0 (44_dsp_tick.md R234, R235). -/
theorem AsReset.tick_hears (h : AsReset m s) : HeardFrameAtZero m (Machine.tick s) := by
  have addr : echoFrameAddr s = 0 := by rw [echoFrameAddr, h.regs, h.echoPos]; rfl
  constructor
  · simp only [tick_histL, firShift_newest, addr, h.mem]; rfl
  · simp only [tick_histR, firShift_newest, addr, h.mem]; rfl

theorem AsReset.runTicks (h : AsReset m s) (n : Nat) : AsReset m (runTicks n s) :=
  runTicks_keeps (AsReset m) (fun _ => AsReset.tick) (fun _ => AsReset.spendTick) n s h

/-- Whatever the first tick of a flush loop leaves, the later ones read the same frame again. -/
theorem AsReset.runTicks_hears (h : AsReset m s) {n : Nat} (pending : 0 < n) : HeardFrameAtZero m (Machine.runTicks n s) := by
  obtain ⟨n, rfl⟩ := Nat.exists_eq_add_one_of_ne_zero pending.ne'
  by_cases completes : (Machine.tick s).fault = none
  · rw [runTicks_succ n s completes]
    have loop := runTicks_keeps (fun t => AsReset m t ∧ HeardFrameAtZero m t) (fun _ ht => ⟨ht.1.tick, ht.1.tick_hears⟩)
      (fun _ ht => ⟨ht.1.spendTick, ht.2.spendTick⟩) n (Machine.tick s).spendTick
      ⟨h.tick.spendTick, h.tick_hears.spendTick⟩
    exact loop.2
  · rw [runTicks_succ_of_fault n s completes]
    exact h.tick_hears

/-! ## The flush straight after reset -/

/-- Reset with memory `m`, a ring of `cap` frames and the cycles of `n` ticks pending. -/
def resetPending (m : Memory) (n cap : Nat) : State := { State.reset with
  mem := m, accCycles := 64 * n, params := { Config.params with ringCapacity := cap } }

theorem resetPending_asReset (m : Memory) (n cap : Nat) : AsReset m ((resetPending m n cap).setFlushing true) :=
  ⟨reset_voice, rfl, rfl, Nat.zero_lt_succ _, rfl, rfl, rfl, rfl, rfl, fun _ hf => nomatch hf⟩

theorem flush_resetPending (m : Memory) (n cap : Nat) :
    flush (resetPending m n cap) = (runTicks n ((resetPending m n cap).setFlushing true)).setFlushing false := by
  rw [flush, show (resetPending m n cap).accCycles / 64 = n from Nat.mul_div_cancel_left n (by decide)]

/-- Settles O25: with room for them the flush makes `n` frames (`runTicks_room`), every tick keeps `AsReset`, and each of them
reads the frame at address 0 (`AsReset.runTicks_hears`). -/
theorem ticksAfterResetAreSilent : Obligations.TicksAfterResetAreSilent := by
  intro m n cap room
  have start := resetPending_asReset m n cap
  have kept := start.runTicks n
  obtain ⟨fault, length, -⟩ := runTicks_room n ((resetPending m n cap).setFlushing true) rfl ((Nat.zero_add n).trans_le room)
  refine ⟨_, exec_flush_of_ok (s := resetPending m n cap) rfl, ?_⟩
  rw [flush_resetPending]
  refine ⟨fault, List.eq_replicate_iff.mpr ⟨length.trans (Nat.zero_add n), kept.silent⟩, kept.mem, kept.noise, kept.echoPos,
    kept.echoLen, kept.voices_eq, fun pending => ?_⟩
  obtain ⟨left, right⟩ := start.runTicks_hears pending
  exact ⟨left, right⟩

end Sys2Proof.Machine
end
